-- ==== Sys2Proof/Word.lean ====
section
/-! DEFINITION. The widths of the block (00_scope.md R10): wire data is one byte, host data one 32-bit word, a host
bus transaction one 41-bit word (30_encoding.md R115). -/

namespace Sys2Proof

/-- One byte of a frame (R10). -/
abbrev Byte := BitVec 8

/-- One host register word (R10). -/
abbrev Word := BitVec 32

/-- A host bus transaction `TXN`, write enable in bit 40, byte offset in bits 39 to 32, data in bits 31 to 0 (R115). -/
abbrev Txn := BitVec 41

end Sys2Proof
end

