-- ==== Sys2Proof/Syntax.lean ====
section
/-! DEFINITION. The operations of the block, one constructor per row of spec/opcode_table.json, in the table's order
(00_scope.md R3). A host bus transaction carries, as operands, every bit its row's mask leaves open: `lane` is
ADDR[1:0], `low` the open low bits of ADDR of an unmapped range, `data` is DATA[31:0], `rest` is DATA[31:2] of a CTRL
write (30_encoding.md R115, R117; log 14). HUNT_BYTE and ACC_BYTE carry the byte consumed (43_frame_sync.md R216,
R217). -/

namespace Sys2Proof

/-- An operation of the block. -/
inductive Instr where
  -- CTRL, offset 0x00
  /-- WR_CTRL_NOP (R248) -/
  | wrCtrlNop (lane : BitVec 2) (rest : BitVec 30)
  /-- WR_CTRL_APPLY (R243) -/
  | wrCtrlApply (lane : BitVec 2) (rest : BitVec 30)
  /-- WR_CTRL_REFRESH (R244) -/
  | wrCtrlRefresh (lane : BitVec 2) (rest : BitVec 30)
  /-- WR_CTRL_BADOP (R247) -/
  | wrCtrlBadop (lane : BitVec 2) (rest : BitVec 30)
  /-- RD_CTRL (R272) -/
  | rdCtrl (lane : BitVec 2) (data : Word)
  -- registers, offsets 0x04 to 0x2C
  /-- RD_REQ (R273) -/
  | rdReq (lane : BitVec 2) (data : Word)
  /-- WR_REQ (R274) -/
  | wrReq (lane : BitVec 2) (data : Word)
  /-- RD_STATUS (R275) -/
  | rdStatus (lane : BitVec 2) (data : Word)
  /-- WR_STATUS (R275) -/
  | wrStatus (lane : BitVec 2) (data : Word)
  /-- RD_EVT (R277) -/
  | rdEvt (lane : BitVec 2) (data : Word)
  /-- WR_EVT (R277) -/
  | wrEvt (lane : BitVec 2) (data : Word)
  /-- RD_IEN (R276) -/
  | rdIen (lane : BitVec 2) (data : Word)
  /-- WR_IEN (R276) -/
  | wrIen (lane : BitVec 2) (data : Word)
  /-- RD_DEV0 (R278) -/
  | rdDev0 (lane : BitVec 2) (data : Word)
  /-- WR_DEV0 (R283) -/
  | wrDev0 (lane : BitVec 2) (data : Word)
  /-- RD_DEV1 (R279) -/
  | rdDev1 (lane : BitVec 2) (data : Word)
  /-- WR_DEV1 (R283) -/
  | wrDev1 (lane : BitVec 2) (data : Word)
  /-- RD_NOW (R280) -/
  | rdNow (lane : BitVec 2) (data : Word)
  /-- WR_NOW (R280) -/
  | wrNow (lane : BitVec 2) (data : Word)
  /-- RD_T_LAST_POLL (R281) -/
  | rdTLastPoll (lane : BitVec 2) (data : Word)
  /-- WR_T_LAST_POLL (R281) -/
  | wrTLastPoll (lane : BitVec 2) (data : Word)
  /-- RD_T_LAST_CMD (R282) -/
  | rdTLastCmd (lane : BitVec 2) (data : Word)
  /-- WR_T_LAST_CMD (R282) -/
  | wrTLastCmd (lane : BitVec 2) (data : Word)
  /-- RD_TMR0 (R284) -/
  | rdTmr0 (lane : BitVec 2) (data : Word)
  /-- WR_TMR0 (R284) -/
  | wrTmr0 (lane : BitVec 2) (data : Word)
  /-- RD_TMR1 (R285) -/
  | rdTmr1 (lane : BitVec 2) (data : Word)
  /-- WR_TMR1 (R285) -/
  | wrTmr1 (lane : BitVec 2) (data : Word)
  -- CMDBUF window, offsets 0x40 to 0x60
  /-- RD_CMDBUF0 (R291) -/
  | rdCmdbuf0 (lane : BitVec 2) (data : Word)
  /-- WR_CMDBUF0 (R283) -/
  | wrCmdbuf0 (lane : BitVec 2) (data : Word)
  /-- RD_CMDBUF1 (R291) -/
  | rdCmdbuf1 (lane : BitVec 2) (data : Word)
  /-- WR_CMDBUF1 (R283) -/
  | wrCmdbuf1 (lane : BitVec 2) (data : Word)
  /-- RD_CMDBUF2 (R291) -/
  | rdCmdbuf2 (lane : BitVec 2) (data : Word)
  /-- WR_CMDBUF2 (R283) -/
  | wrCmdbuf2 (lane : BitVec 2) (data : Word)
  /-- RD_CMDBUF3 (R291) -/
  | rdCmdbuf3 (lane : BitVec 2) (data : Word)
  /-- WR_CMDBUF3 (R283) -/
  | wrCmdbuf3 (lane : BitVec 2) (data : Word)
  /-- RD_CMDBUF4 (R291) -/
  | rdCmdbuf4 (lane : BitVec 2) (data : Word)
  /-- WR_CMDBUF4 (R283) -/
  | wrCmdbuf4 (lane : BitVec 2) (data : Word)
  /-- RD_CMDBUF5 (R291) -/
  | rdCmdbuf5 (lane : BitVec 2) (data : Word)
  /-- WR_CMDBUF5 (R283) -/
  | wrCmdbuf5 (lane : BitVec 2) (data : Word)
  /-- RD_CMDBUF6 (R291) -/
  | rdCmdbuf6 (lane : BitVec 2) (data : Word)
  /-- WR_CMDBUF6 (R283) -/
  | wrCmdbuf6 (lane : BitVec 2) (data : Word)
  /-- RD_CMDBUF7 (R291) -/
  | rdCmdbuf7 (lane : BitVec 2) (data : Word)
  /-- WR_CMDBUF7 (R283) -/
  | wrCmdbuf7 (lane : BitVec 2) (data : Word)
  /-- RD_CMDBUF8 (R291) -/
  | rdCmdbuf8 (lane : BitVec 2) (data : Word)
  /-- WR_CMDBUF8 (R283) -/
  | wrCmdbuf8 (lane : BitVec 2) (data : Word)
  -- RXBUF window, offsets 0x80 to 0xCC
  /-- RD_RXBUF0 (R293) -/
  | rdRxbuf0 (lane : BitVec 2) (data : Word)
  /-- WR_RXBUF0 (R283) -/
  | wrRxbuf0 (lane : BitVec 2) (data : Word)
  /-- RD_RXBUF1 (R293) -/
  | rdRxbuf1 (lane : BitVec 2) (data : Word)
  /-- WR_RXBUF1 (R283) -/
  | wrRxbuf1 (lane : BitVec 2) (data : Word)
  /-- RD_RXBUF2 (R293) -/
  | rdRxbuf2 (lane : BitVec 2) (data : Word)
  /-- WR_RXBUF2 (R283) -/
  | wrRxbuf2 (lane : BitVec 2) (data : Word)
  /-- RD_RXBUF3 (R293) -/
  | rdRxbuf3 (lane : BitVec 2) (data : Word)
  /-- WR_RXBUF3 (R283) -/
  | wrRxbuf3 (lane : BitVec 2) (data : Word)
  /-- RD_RXBUF4 (R293) -/
  | rdRxbuf4 (lane : BitVec 2) (data : Word)
  /-- WR_RXBUF4 (R283) -/
  | wrRxbuf4 (lane : BitVec 2) (data : Word)
  /-- RD_RXBUF5 (R293) -/
  | rdRxbuf5 (lane : BitVec 2) (data : Word)
  /-- WR_RXBUF5 (R283) -/
  | wrRxbuf5 (lane : BitVec 2) (data : Word)
  /-- RD_RXBUF6 (R293) -/
  | rdRxbuf6 (lane : BitVec 2) (data : Word)
  /-- WR_RXBUF6 (R283) -/
  | wrRxbuf6 (lane : BitVec 2) (data : Word)
  /-- RD_RXBUF7 (R293) -/
  | rdRxbuf7 (lane : BitVec 2) (data : Word)
  /-- WR_RXBUF7 (R283) -/
  | wrRxbuf7 (lane : BitVec 2) (data : Word)
  /-- RD_RXBUF8 (R293) -/
  | rdRxbuf8 (lane : BitVec 2) (data : Word)
  /-- WR_RXBUF8 (R283) -/
  | wrRxbuf8 (lane : BitVec 2) (data : Word)
  /-- RD_RXBUF9 (R293) -/
  | rdRxbuf9 (lane : BitVec 2) (data : Word)
  /-- WR_RXBUF9 (R283) -/
  | wrRxbuf9 (lane : BitVec 2) (data : Word)
  /-- RD_RXBUF10 (R293) -/
  | rdRxbuf10 (lane : BitVec 2) (data : Word)
  /-- WR_RXBUF10 (R283) -/
  | wrRxbuf10 (lane : BitVec 2) (data : Word)
  /-- RD_RXBUF11 (R293) -/
  | rdRxbuf11 (lane : BitVec 2) (data : Word)
  /-- WR_RXBUF11 (R283) -/
  | wrRxbuf11 (lane : BitVec 2) (data : Word)
  /-- RD_RXBUF12 (R293) -/
  | rdRxbuf12 (lane : BitVec 2) (data : Word)
  /-- WR_RXBUF12 (R283) -/
  | wrRxbuf12 (lane : BitVec 2) (data : Word)
  /-- RD_RXBUF13 (R293) -/
  | rdRxbuf13 (lane : BitVec 2) (data : Word)
  /-- WR_RXBUF13 (R283) -/
  | wrRxbuf13 (lane : BitVec 2) (data : Word)
  /-- RD_RXBUF14 (R293) -/
  | rdRxbuf14 (lane : BitVec 2) (data : Word)
  /-- WR_RXBUF14 (R283) -/
  | wrRxbuf14 (lane : BitVec 2) (data : Word)
  /-- RD_RXBUF15 (R293) -/
  | rdRxbuf15 (lane : BitVec 2) (data : Word)
  /-- WR_RXBUF15 (R283) -/
  | wrRxbuf15 (lane : BitVec 2) (data : Word)
  /-- RD_RXBUF16 (R293) -/
  | rdRxbuf16 (lane : BitVec 2) (data : Word)
  /-- WR_RXBUF16 (R283) -/
  | wrRxbuf16 (lane : BitVec 2) (data : Word)
  /-- RD_RXBUF17 (R293) -/
  | rdRxbuf17 (lane : BitVec 2) (data : Word)
  /-- WR_RXBUF17 (R283) -/
  | wrRxbuf17 (lane : BitVec 2) (data : Word)
  /-- RD_RXBUF18 (R293) -/
  | rdRxbuf18 (lane : BitVec 2) (data : Word)
  /-- WR_RXBUF18 (R283) -/
  | wrRxbuf18 (lane : BitVec 2) (data : Word)
  /-- RD_RXBUF19 (R293) -/
  | rdRxbuf19 (lane : BitVec 2) (data : Word)
  /-- WR_RXBUF19 (R283) -/
  | wrRxbuf19 (lane : BitVec 2) (data : Word)
  -- unmapped offsets
  /-- RD_UNMAPPED_0x30_0x3C (R295) -/
  | rdUnmapped30To3C (low : BitVec 4) (data : Word)
  /-- WR_UNMAPPED_0x30_0x3C (R295) -/
  | wrUnmapped30To3C (low : BitVec 4) (data : Word)
  /-- RD_UNMAPPED_0x64 (R295) -/
  | rdUnmapped64 (lane : BitVec 2) (data : Word)
  /-- WR_UNMAPPED_0x64 (R295) -/
  | wrUnmapped64 (lane : BitVec 2) (data : Word)
  /-- RD_UNMAPPED_0x68 (R295) -/
  | rdUnmapped68 (lane : BitVec 2) (data : Word)
  /-- WR_UNMAPPED_0x68 (R295) -/
  | wrUnmapped68 (lane : BitVec 2) (data : Word)
  /-- RD_UNMAPPED_0x6C (R295) -/
  | rdUnmapped6C (lane : BitVec 2) (data : Word)
  /-- WR_UNMAPPED_0x6C (R295) -/
  | wrUnmapped6C (lane : BitVec 2) (data : Word)
  /-- RD_UNMAPPED_0x70_0x7C (R295) -/
  | rdUnmapped70To7C (low : BitVec 4) (data : Word)
  /-- WR_UNMAPPED_0x70_0x7C (R295) -/
  | wrUnmapped70To7C (low : BitVec 4) (data : Word)
  /-- RD_UNMAPPED_0xD0_0xDC (R295) -/
  | rdUnmappedD0ToDC (low : BitVec 4) (data : Word)
  /-- WR_UNMAPPED_0xD0_0xDC (R295) -/
  | wrUnmappedD0ToDC (low : BitVec 4) (data : Word)
  /-- RD_UNMAPPED_0xE0_0xFC (R295) -/
  | rdUnmappedE0ToFC (low : BitVec 5) (data : Word)
  /-- WR_UNMAPPED_0xE0_0xFC (R295) -/
  | wrUnmappedE0ToFC (low : BitVec 5) (data : Word)
  -- operations with no encoding (30_encoding.md R119)
  /-- STARTUP (R241) -/
  | startup
  /-- PERIODIC (R242) -/
  | periodic
  /-- ENCODE (R140) -/
  | encode
  /-- XORFOLD (R170) -/
  | xorfold
  /-- DECODE (R180) -/
  | decode
  /-- TX_CMD_BYTE (R211) -/
  | txCmdByte
  /-- TX_QRY_BYTE (R213) -/
  | txQryByte
  /-- POLL_START (R214) -/
  | pollStart
  /-- HUNT_BYTE (R216) -/
  | huntByte (rxData : Byte)
  /-- ACC_BYTE (R217) -/
  | accByte (rxData : Byte)
  /-- CAPACITY_STOP (R218) -/
  | capacityStop
  /-- TIMEOUT_TICK (R219) -/
  | timeoutTick
  /-- SETTLE_TICK (R221) -/
  | settleTick
  deriving DecidableEq, Repr

end Sys2Proof
end

