-- ==== Sys2Proof/WellFormed.lean ====
section
/-! DEFINITION. Which operations can stand as a transaction on the host bus. The operands' widths are in their types, so
the one check left is that the operation has an encoding at all: STARTUP, PERIODIC and the block's internal operations
have none (30_encoding.md R119). -/

namespace Sys2Proof

/-- The operation is a host bus transaction, so a host can issue it (R115 to R117). -/
def wellFormed : Instr → Bool
  | .wrCtrlNop _ _ => true
  | .wrCtrlApply _ _ => true
  | .wrCtrlRefresh _ _ => true
  | .wrCtrlBadop _ _ => true
  | .rdCtrl _ _ => true
  | .rdReq _ _ => true
  | .wrReq _ _ => true
  | .rdStatus _ _ => true
  | .wrStatus _ _ => true
  | .rdEvt _ _ => true
  | .wrEvt _ _ => true
  | .rdIen _ _ => true
  | .wrIen _ _ => true
  | .rdDev0 _ _ => true
  | .wrDev0 _ _ => true
  | .rdDev1 _ _ => true
  | .wrDev1 _ _ => true
  | .rdNow _ _ => true
  | .wrNow _ _ => true
  | .rdTLastPoll _ _ => true
  | .wrTLastPoll _ _ => true
  | .rdTLastCmd _ _ => true
  | .wrTLastCmd _ _ => true
  | .rdTmr0 _ _ => true
  | .wrTmr0 _ _ => true
  | .rdTmr1 _ _ => true
  | .wrTmr1 _ _ => true
  | .rdCmdbuf0 _ _ => true
  | .wrCmdbuf0 _ _ => true
  | .rdCmdbuf1 _ _ => true
  | .wrCmdbuf1 _ _ => true
  | .rdCmdbuf2 _ _ => true
  | .wrCmdbuf2 _ _ => true
  | .rdCmdbuf3 _ _ => true
  | .wrCmdbuf3 _ _ => true
  | .rdCmdbuf4 _ _ => true
  | .wrCmdbuf4 _ _ => true
  | .rdCmdbuf5 _ _ => true
  | .wrCmdbuf5 _ _ => true
  | .rdCmdbuf6 _ _ => true
  | .wrCmdbuf6 _ _ => true
  | .rdCmdbuf7 _ _ => true
  | .wrCmdbuf7 _ _ => true
  | .rdCmdbuf8 _ _ => true
  | .wrCmdbuf8 _ _ => true
  | .rdRxbuf0 _ _ => true
  | .wrRxbuf0 _ _ => true
  | .rdRxbuf1 _ _ => true
  | .wrRxbuf1 _ _ => true
  | .rdRxbuf2 _ _ => true
  | .wrRxbuf2 _ _ => true
  | .rdRxbuf3 _ _ => true
  | .wrRxbuf3 _ _ => true
  | .rdRxbuf4 _ _ => true
  | .wrRxbuf4 _ _ => true
  | .rdRxbuf5 _ _ => true
  | .wrRxbuf5 _ _ => true
  | .rdRxbuf6 _ _ => true
  | .wrRxbuf6 _ _ => true
  | .rdRxbuf7 _ _ => true
  | .wrRxbuf7 _ _ => true
  | .rdRxbuf8 _ _ => true
  | .wrRxbuf8 _ _ => true
  | .rdRxbuf9 _ _ => true
  | .wrRxbuf9 _ _ => true
  | .rdRxbuf10 _ _ => true
  | .wrRxbuf10 _ _ => true
  | .rdRxbuf11 _ _ => true
  | .wrRxbuf11 _ _ => true
  | .rdRxbuf12 _ _ => true
  | .wrRxbuf12 _ _ => true
  | .rdRxbuf13 _ _ => true
  | .wrRxbuf13 _ _ => true
  | .rdRxbuf14 _ _ => true
  | .wrRxbuf14 _ _ => true
  | .rdRxbuf15 _ _ => true
  | .wrRxbuf15 _ _ => true
  | .rdRxbuf16 _ _ => true
  | .wrRxbuf16 _ _ => true
  | .rdRxbuf17 _ _ => true
  | .wrRxbuf17 _ _ => true
  | .rdRxbuf18 _ _ => true
  | .wrRxbuf18 _ _ => true
  | .rdRxbuf19 _ _ => true
  | .wrRxbuf19 _ _ => true
  | .rdUnmapped30To3C _ _ => true
  | .wrUnmapped30To3C _ _ => true
  | .rdUnmapped64 _ _ => true
  | .wrUnmapped64 _ _ => true
  | .rdUnmapped68 _ _ => true
  | .wrUnmapped68 _ _ => true
  | .rdUnmapped6C _ _ => true
  | .wrUnmapped6C _ _ => true
  | .rdUnmapped70To7C _ _ => true
  | .wrUnmapped70To7C _ _ => true
  | .rdUnmappedD0ToDC _ _ => true
  | .wrUnmappedD0ToDC _ _ => true
  | .rdUnmappedE0ToFC _ _ => true
  | .wrUnmappedE0ToFC _ _ => true
  | .startup => false
  | .periodic => false
  | .encode => false
  | .xorfold => false
  | .decode => false
  | .txCmdByte => false
  | .txQryByte => false
  | .pollStart => false
  | .huntByte _ => false
  | .accByte _ => false
  | .capacityStop => false
  | .timeoutTick => false
  | .settleTick => false

end Sys2Proof
end

