-- ==== Sys2Proof/Decode.lean ====
section
/-! DEFINITION. Decoding and encoding of host bus transactions (30_encoding.md R115, R117, 45_host_bus.md R296). Every
41-bit word is a transaction of exactly one row; a byte list is refused by name when it is no 41-bit word. The encoder
stands after the decoder, then one word for every row with an encoding. -/

namespace Sys2Proof

/-! ## Fields of a transaction word (R115) -/

/-- WE. -/
def txnWe (w : Txn) : Bool := w.getLsbD 40
/-- ADDR. -/
def txnAddr (w : Txn) : BitVec 8 := w.extractLsb' 32 8
/-- DATA. -/
def txnData (w : Txn) : Word := w.extractLsb' 0 32
/-- ADDR[7:2], the word index (R296). -/
def txnIndex (w : Txn) : Nat := (w.extractLsb' 34 6).toNat
/-- ADDR[1:0], ignored by the bus (20_memory.md R83). -/
def txnLane (w : Txn) : BitVec 2 := w.extractLsb' 32 2
/-- ADDR[3:0]. -/
def txnLow4 (w : Txn) : BitVec 4 := w.extractLsb' 32 4
/-- ADDR[4:0]. -/
def txnLow5 (w : Txn) : BitVec 5 := w.extractLsb' 32 5
/-- DATA[31:2]. -/
def txnRest (w : Txn) : BitVec 30 := w.extractLsb' 2 30
/-- OP, DATA[1:0] (R114). -/
def txnOp (w : Txn) : BitVec 2 := w.extractLsb' 0 2

/-! ## Decoder -/

/-- A CTRL write, by OP (R114, R117). -/
def decodeCtrl (w : Txn) : Instr :=
  if txnOp w = 0 then .wrCtrlNop (txnLane w) (txnRest w)
  else if txnOp w = 1 then .wrCtrlApply (txnLane w) (txnRest w)
  else if txnOp w = 2 then .wrCtrlRefresh (txnLane w) (txnRest w)
  else .wrCtrlBadop (txnLane w) (txnRest w)

/-- A read of word index k (R296). -/
def decodeRead (k : Nat) (w : Txn) : Instr :=
  match k with
  | 0 => .rdCtrl (txnLane w) (txnData w)
  | 1 => .rdReq (txnLane w) (txnData w)
  | 2 => .rdStatus (txnLane w) (txnData w)
  | 3 => .rdEvt (txnLane w) (txnData w)
  | 4 => .rdIen (txnLane w) (txnData w)
  | 5 => .rdDev0 (txnLane w) (txnData w)
  | 6 => .rdDev1 (txnLane w) (txnData w)
  | 7 => .rdNow (txnLane w) (txnData w)
  | 8 => .rdTLastPoll (txnLane w) (txnData w)
  | 9 => .rdTLastCmd (txnLane w) (txnData w)
  | 10 => .rdTmr0 (txnLane w) (txnData w)
  | 11 => .rdTmr1 (txnLane w) (txnData w)
  | 12 | 13 | 14 | 15 => .rdUnmapped30To3C (txnLow4 w) (txnData w)
  | 16 => .rdCmdbuf0 (txnLane w) (txnData w)
  | 17 => .rdCmdbuf1 (txnLane w) (txnData w)
  | 18 => .rdCmdbuf2 (txnLane w) (txnData w)
  | 19 => .rdCmdbuf3 (txnLane w) (txnData w)
  | 20 => .rdCmdbuf4 (txnLane w) (txnData w)
  | 21 => .rdCmdbuf5 (txnLane w) (txnData w)
  | 22 => .rdCmdbuf6 (txnLane w) (txnData w)
  | 23 => .rdCmdbuf7 (txnLane w) (txnData w)
  | 24 => .rdCmdbuf8 (txnLane w) (txnData w)
  | 25 => .rdUnmapped64 (txnLane w) (txnData w)
  | 26 => .rdUnmapped68 (txnLane w) (txnData w)
  | 27 => .rdUnmapped6C (txnLane w) (txnData w)
  | 28 | 29 | 30 | 31 => .rdUnmapped70To7C (txnLow4 w) (txnData w)
  | 32 => .rdRxbuf0 (txnLane w) (txnData w)
  | 33 => .rdRxbuf1 (txnLane w) (txnData w)
  | 34 => .rdRxbuf2 (txnLane w) (txnData w)
  | 35 => .rdRxbuf3 (txnLane w) (txnData w)
  | 36 => .rdRxbuf4 (txnLane w) (txnData w)
  | 37 => .rdRxbuf5 (txnLane w) (txnData w)
  | 38 => .rdRxbuf6 (txnLane w) (txnData w)
  | 39 => .rdRxbuf7 (txnLane w) (txnData w)
  | 40 => .rdRxbuf8 (txnLane w) (txnData w)
  | 41 => .rdRxbuf9 (txnLane w) (txnData w)
  | 42 => .rdRxbuf10 (txnLane w) (txnData w)
  | 43 => .rdRxbuf11 (txnLane w) (txnData w)
  | 44 => .rdRxbuf12 (txnLane w) (txnData w)
  | 45 => .rdRxbuf13 (txnLane w) (txnData w)
  | 46 => .rdRxbuf14 (txnLane w) (txnData w)
  | 47 => .rdRxbuf15 (txnLane w) (txnData w)
  | 48 => .rdRxbuf16 (txnLane w) (txnData w)
  | 49 => .rdRxbuf17 (txnLane w) (txnData w)
  | 50 => .rdRxbuf18 (txnLane w) (txnData w)
  | 51 => .rdRxbuf19 (txnLane w) (txnData w)
  | 52 | 53 | 54 | 55 => .rdUnmappedD0ToDC (txnLow4 w) (txnData w)
  | _ => .rdUnmappedE0ToFC (txnLow5 w) (txnData w)

/-- A write of word index k (R296). -/
def decodeWrite (k : Nat) (w : Txn) : Instr :=
  match k with
  | 0 => decodeCtrl w
  | 1 => .wrReq (txnLane w) (txnData w)
  | 2 => .wrStatus (txnLane w) (txnData w)
  | 3 => .wrEvt (txnLane w) (txnData w)
  | 4 => .wrIen (txnLane w) (txnData w)
  | 5 => .wrDev0 (txnLane w) (txnData w)
  | 6 => .wrDev1 (txnLane w) (txnData w)
  | 7 => .wrNow (txnLane w) (txnData w)
  | 8 => .wrTLastPoll (txnLane w) (txnData w)
  | 9 => .wrTLastCmd (txnLane w) (txnData w)
  | 10 => .wrTmr0 (txnLane w) (txnData w)
  | 11 => .wrTmr1 (txnLane w) (txnData w)
  | 12 | 13 | 14 | 15 => .wrUnmapped30To3C (txnLow4 w) (txnData w)
  | 16 => .wrCmdbuf0 (txnLane w) (txnData w)
  | 17 => .wrCmdbuf1 (txnLane w) (txnData w)
  | 18 => .wrCmdbuf2 (txnLane w) (txnData w)
  | 19 => .wrCmdbuf3 (txnLane w) (txnData w)
  | 20 => .wrCmdbuf4 (txnLane w) (txnData w)
  | 21 => .wrCmdbuf5 (txnLane w) (txnData w)
  | 22 => .wrCmdbuf6 (txnLane w) (txnData w)
  | 23 => .wrCmdbuf7 (txnLane w) (txnData w)
  | 24 => .wrCmdbuf8 (txnLane w) (txnData w)
  | 25 => .wrUnmapped64 (txnLane w) (txnData w)
  | 26 => .wrUnmapped68 (txnLane w) (txnData w)
  | 27 => .wrUnmapped6C (txnLane w) (txnData w)
  | 28 | 29 | 30 | 31 => .wrUnmapped70To7C (txnLow4 w) (txnData w)
  | 32 => .wrRxbuf0 (txnLane w) (txnData w)
  | 33 => .wrRxbuf1 (txnLane w) (txnData w)
  | 34 => .wrRxbuf2 (txnLane w) (txnData w)
  | 35 => .wrRxbuf3 (txnLane w) (txnData w)
  | 36 => .wrRxbuf4 (txnLane w) (txnData w)
  | 37 => .wrRxbuf5 (txnLane w) (txnData w)
  | 38 => .wrRxbuf6 (txnLane w) (txnData w)
  | 39 => .wrRxbuf7 (txnLane w) (txnData w)
  | 40 => .wrRxbuf8 (txnLane w) (txnData w)
  | 41 => .wrRxbuf9 (txnLane w) (txnData w)
  | 42 => .wrRxbuf10 (txnLane w) (txnData w)
  | 43 => .wrRxbuf11 (txnLane w) (txnData w)
  | 44 => .wrRxbuf12 (txnLane w) (txnData w)
  | 45 => .wrRxbuf13 (txnLane w) (txnData w)
  | 46 => .wrRxbuf14 (txnLane w) (txnData w)
  | 47 => .wrRxbuf15 (txnLane w) (txnData w)
  | 48 => .wrRxbuf16 (txnLane w) (txnData w)
  | 49 => .wrRxbuf17 (txnLane w) (txnData w)
  | 50 => .wrRxbuf18 (txnLane w) (txnData w)
  | 51 => .wrRxbuf19 (txnLane w) (txnData w)
  | 52 | 53 | 54 | 55 => .wrUnmappedD0ToDC (txnLow4 w) (txnData w)
  | _ => .wrUnmappedE0ToFC (txnLow5 w) (txnData w)

/-- The row of a transaction word, by WE and ADDR[7:2] (R117). -/
def decodeTxn (w : Txn) : Instr := if txnWe w then decodeWrite (txnIndex w) w else decodeRead (txnIndex w) w

/-- Why a byte list is no transaction. -/
inductive DecodeError where
  /-- fewer than six bytes -/
  | truncated
  /-- a bit above bit 40 is set: no bit of TXN (R115) -/
  | beyondTxn
  deriving DecidableEq, Repr

/-- A field `v` at bit n of a transaction word, every other bit 0. -/
def txnField {k : Nat} (v : BitVec k) (n : Nat) : Txn := v.setWidth 41 <<< n

/-- A transaction word from six bytes, the last argument the least significant (log 15). -/
def txnOfBytes (b5 b4 b3 b2 b1 b0 : Byte) : Txn :=
  txnField b5 40 ||| txnField b4 32 ||| txnField b3 24 ||| txnField b2 16 ||| txnField b1 8 ||| txnField b0 0

/-- A transaction from six bytes, the least significant first (log 15), and the bytes after it. -/
def decodeBytes : List Byte → Except DecodeError (Instr × List Byte)
  | b0 :: b1 :: b2 :: b3 :: b4 :: b5 :: rest =>
    if b5.toNat < 2 then .ok (decodeTxn (txnOfBytes b5 b4 b3 b2 b1 b0), rest)
    else .error .beyondTxn
  | _ => .error .truncated

/-- The n low bytes of w, the least significant first. -/
def bytesOf : Nat → Nat → List Byte
  | 0, _ => []
  | n + 1, w => BitVec.ofNat 8 w :: bytesOf n (w / 256)

/-- The transaction word of a table word: its nbits bits, zero above them. -/
def txnOfTableWord (nbits w : Nat) : Txn := BitVec.ofNat 41 (w % 2 ^ nbits)

/-- The operation the decoder reads from the nbits bits of w, none where it refuses them. -/
def decodeTableWord (nbits w : Nat) : Option Instr :=
  if w % 2 ^ nbits < 2 ^ 48 then
    match decodeBytes (bytesOf 6 (w % 2 ^ nbits)) with
    | .ok (i, _) => some i
    | .error _ => none
  else none

/-! ## Encoder -/

/-- A transaction word from its fields, ADDR split into word index and low bits (R115). -/
def txnWord (we : Bool) (k : BitVec 6) (lane : BitVec 2) (data : Word) : Txn :=
  txnField (BitVec.ofBool we) 40 ||| txnField k 34 ||| txnField lane 32 ||| txnField data 0

/-- A CTRL write word with operation code `op` (R114). -/
def ctrlWord (op : BitVec 2) (lane : BitVec 2) (rest : BitVec 30) : Txn :=
  txnField 1#1 40 ||| txnField lane 32 ||| txnField rest 2 ||| txnField op 0

/-- A word of an unmapped range whose row fixes ADDR[7:4]. -/
def unmappedWord4 (we : Bool) (hi : BitVec 4) (low : BitVec 4) (data : Word) : Txn :=
  txnField (BitVec.ofBool we) 40 ||| txnField hi 36 ||| txnField low 32 ||| txnField data 0

/-- A word of the unmapped range whose row fixes ADDR[7:5]. -/
def unmappedWord5 (we : Bool) (hi : BitVec 3) (low : BitVec 5) (data : Word) : Txn :=
  txnField (BitVec.ofBool we) 40 ||| txnField hi 37 ||| txnField low 32 ||| txnField data 0

/-- The transaction word of an operation; none for an operation with no encoding (R119). -/
def encode : Instr → Option Txn
  | .wrCtrlNop lane rest => some (ctrlWord 0 lane rest)
  | .wrCtrlApply lane rest => some (ctrlWord 1 lane rest)
  | .wrCtrlRefresh lane rest => some (ctrlWord 2 lane rest)
  | .wrCtrlBadop lane rest => some (ctrlWord 3 lane rest)
  | .rdCtrl lane data => some (txnWord false 0 lane data)
  | .rdReq lane data => some (txnWord false 1 lane data)
  | .wrReq lane data => some (txnWord true 1 lane data)
  | .rdStatus lane data => some (txnWord false 2 lane data)
  | .wrStatus lane data => some (txnWord true 2 lane data)
  | .rdEvt lane data => some (txnWord false 3 lane data)
  | .wrEvt lane data => some (txnWord true 3 lane data)
  | .rdIen lane data => some (txnWord false 4 lane data)
  | .wrIen lane data => some (txnWord true 4 lane data)
  | .rdDev0 lane data => some (txnWord false 5 lane data)
  | .wrDev0 lane data => some (txnWord true 5 lane data)
  | .rdDev1 lane data => some (txnWord false 6 lane data)
  | .wrDev1 lane data => some (txnWord true 6 lane data)
  | .rdNow lane data => some (txnWord false 7 lane data)
  | .wrNow lane data => some (txnWord true 7 lane data)
  | .rdTLastPoll lane data => some (txnWord false 8 lane data)
  | .wrTLastPoll lane data => some (txnWord true 8 lane data)
  | .rdTLastCmd lane data => some (txnWord false 9 lane data)
  | .wrTLastCmd lane data => some (txnWord true 9 lane data)
  | .rdTmr0 lane data => some (txnWord false 10 lane data)
  | .wrTmr0 lane data => some (txnWord true 10 lane data)
  | .rdTmr1 lane data => some (txnWord false 11 lane data)
  | .wrTmr1 lane data => some (txnWord true 11 lane data)
  | .rdCmdbuf0 lane data => some (txnWord false 16 lane data)
  | .wrCmdbuf0 lane data => some (txnWord true 16 lane data)
  | .rdCmdbuf1 lane data => some (txnWord false 17 lane data)
  | .wrCmdbuf1 lane data => some (txnWord true 17 lane data)
  | .rdCmdbuf2 lane data => some (txnWord false 18 lane data)
  | .wrCmdbuf2 lane data => some (txnWord true 18 lane data)
  | .rdCmdbuf3 lane data => some (txnWord false 19 lane data)
  | .wrCmdbuf3 lane data => some (txnWord true 19 lane data)
  | .rdCmdbuf4 lane data => some (txnWord false 20 lane data)
  | .wrCmdbuf4 lane data => some (txnWord true 20 lane data)
  | .rdCmdbuf5 lane data => some (txnWord false 21 lane data)
  | .wrCmdbuf5 lane data => some (txnWord true 21 lane data)
  | .rdCmdbuf6 lane data => some (txnWord false 22 lane data)
  | .wrCmdbuf6 lane data => some (txnWord true 22 lane data)
  | .rdCmdbuf7 lane data => some (txnWord false 23 lane data)
  | .wrCmdbuf7 lane data => some (txnWord true 23 lane data)
  | .rdCmdbuf8 lane data => some (txnWord false 24 lane data)
  | .wrCmdbuf8 lane data => some (txnWord true 24 lane data)
  | .rdRxbuf0 lane data => some (txnWord false 32 lane data)
  | .wrRxbuf0 lane data => some (txnWord true 32 lane data)
  | .rdRxbuf1 lane data => some (txnWord false 33 lane data)
  | .wrRxbuf1 lane data => some (txnWord true 33 lane data)
  | .rdRxbuf2 lane data => some (txnWord false 34 lane data)
  | .wrRxbuf2 lane data => some (txnWord true 34 lane data)
  | .rdRxbuf3 lane data => some (txnWord false 35 lane data)
  | .wrRxbuf3 lane data => some (txnWord true 35 lane data)
  | .rdRxbuf4 lane data => some (txnWord false 36 lane data)
  | .wrRxbuf4 lane data => some (txnWord true 36 lane data)
  | .rdRxbuf5 lane data => some (txnWord false 37 lane data)
  | .wrRxbuf5 lane data => some (txnWord true 37 lane data)
  | .rdRxbuf6 lane data => some (txnWord false 38 lane data)
  | .wrRxbuf6 lane data => some (txnWord true 38 lane data)
  | .rdRxbuf7 lane data => some (txnWord false 39 lane data)
  | .wrRxbuf7 lane data => some (txnWord true 39 lane data)
  | .rdRxbuf8 lane data => some (txnWord false 40 lane data)
  | .wrRxbuf8 lane data => some (txnWord true 40 lane data)
  | .rdRxbuf9 lane data => some (txnWord false 41 lane data)
  | .wrRxbuf9 lane data => some (txnWord true 41 lane data)
  | .rdRxbuf10 lane data => some (txnWord false 42 lane data)
  | .wrRxbuf10 lane data => some (txnWord true 42 lane data)
  | .rdRxbuf11 lane data => some (txnWord false 43 lane data)
  | .wrRxbuf11 lane data => some (txnWord true 43 lane data)
  | .rdRxbuf12 lane data => some (txnWord false 44 lane data)
  | .wrRxbuf12 lane data => some (txnWord true 44 lane data)
  | .rdRxbuf13 lane data => some (txnWord false 45 lane data)
  | .wrRxbuf13 lane data => some (txnWord true 45 lane data)
  | .rdRxbuf14 lane data => some (txnWord false 46 lane data)
  | .wrRxbuf14 lane data => some (txnWord true 46 lane data)
  | .rdRxbuf15 lane data => some (txnWord false 47 lane data)
  | .wrRxbuf15 lane data => some (txnWord true 47 lane data)
  | .rdRxbuf16 lane data => some (txnWord false 48 lane data)
  | .wrRxbuf16 lane data => some (txnWord true 48 lane data)
  | .rdRxbuf17 lane data => some (txnWord false 49 lane data)
  | .wrRxbuf17 lane data => some (txnWord true 49 lane data)
  | .rdRxbuf18 lane data => some (txnWord false 50 lane data)
  | .wrRxbuf18 lane data => some (txnWord true 50 lane data)
  | .rdRxbuf19 lane data => some (txnWord false 51 lane data)
  | .wrRxbuf19 lane data => some (txnWord true 51 lane data)
  | .rdUnmapped30To3C low data => some (unmappedWord4 false 0x3 low data)
  | .wrUnmapped30To3C low data => some (unmappedWord4 true 0x3 low data)
  | .rdUnmapped64 lane data => some (txnWord false 25 lane data)
  | .wrUnmapped64 lane data => some (txnWord true 25 lane data)
  | .rdUnmapped68 lane data => some (txnWord false 26 lane data)
  | .wrUnmapped68 lane data => some (txnWord true 26 lane data)
  | .rdUnmapped6C lane data => some (txnWord false 27 lane data)
  | .wrUnmapped6C lane data => some (txnWord true 27 lane data)
  | .rdUnmapped70To7C low data => some (unmappedWord4 false 0x7 low data)
  | .wrUnmapped70To7C low data => some (unmappedWord4 true 0x7 low data)
  | .rdUnmappedD0ToDC low data => some (unmappedWord4 false 0xD low data)
  | .wrUnmappedD0ToDC low data => some (unmappedWord4 true 0xD low data)
  | .rdUnmappedE0ToFC low data => some (unmappedWord5 false 0b111 low data)
  | .wrUnmappedE0ToFC low data => some (unmappedWord5 true 0b111 low data)
  | .startup => none
  | .periodic => none
  | .encode => none
  | .xorfold => none
  | .decode => none
  | .txCmdByte => none
  | .txQryByte => none
  | .pollStart => none
  | .huntByte _ => none
  | .accByte _ => none
  | .capacityStop => none
  | .timeoutTick => none
  | .settleTick => none

/-! ## One word for every row with an encoding, the bits the row leaves open set to a pattern -/

/-- Words of the table's rows (R114). -/
theorem decode_words_ctrl : ∀ p ∈ ([
    (0x103AAAAAA94, .wrCtrlNop 3 0x2AAAAAA5),
    (0x103AAAAAA95, .wrCtrlApply 3 0x2AAAAAA5),
    (0x103AAAAAA96, .wrCtrlRefresh 3 0x2AAAAAA5),
    (0x103AAAAAA97, .wrCtrlBadop 3 0x2AAAAAA5),
    (0x0009C3A51E7, .rdCtrl 0 0x9C3A51E7)] : List (Txn × Instr)), decodeTxn p.1 = p.2 := by decide

/-- Words of the table's rows (R296). -/
theorem decode_words_registers_1 : ∀ p ∈ ([
    (0x0049C3A51E7, .rdReq 0 0x9C3A51E7),
    (0x1059C3A51E7, .wrReq 1 0x9C3A51E7),
    (0x00A9C3A51E7, .rdStatus 2 0x9C3A51E7),
    (0x10B9C3A51E7, .wrStatus 3 0x9C3A51E7),
    (0x00C9C3A51E7, .rdEvt 0 0x9C3A51E7),
    (0x10D9C3A51E7, .wrEvt 1 0x9C3A51E7),
    (0x0129C3A51E7, .rdIen 2 0x9C3A51E7),
    (0x1139C3A51E7, .wrIen 3 0x9C3A51E7),
    (0x0149C3A51E7, .rdDev0 0 0x9C3A51E7),
    (0x1159C3A51E7, .wrDev0 1 0x9C3A51E7),
    (0x01A9C3A51E7, .rdDev1 2 0x9C3A51E7),
    (0x11B9C3A51E7, .wrDev1 3 0x9C3A51E7),
    (0x01C9C3A51E7, .rdNow 0 0x9C3A51E7),
    (0x11D9C3A51E7, .wrNow 1 0x9C3A51E7),
    (0x0229C3A51E7, .rdTLastPoll 2 0x9C3A51E7),
    (0x1239C3A51E7, .wrTLastPoll 3 0x9C3A51E7),
    (0x0249C3A51E7, .rdTLastCmd 0 0x9C3A51E7),
    (0x1259C3A51E7, .wrTLastCmd 1 0x9C3A51E7),
    (0x02A9C3A51E7, .rdTmr0 2 0x9C3A51E7),
    (0x12B9C3A51E7, .wrTmr0 3 0x9C3A51E7)] : List (Txn × Instr)), decodeTxn p.1 = p.2 := by decide

/-- Words of the table's rows (R296). -/
theorem decode_words_registers_2 : ∀ p ∈ ([
    (0x02C9C3A51E7, .rdTmr1 0 0x9C3A51E7),
    (0x12D9C3A51E7, .wrTmr1 1 0x9C3A51E7)] : List (Txn × Instr)), decodeTxn p.1 = p.2 := by decide

/-- Words of the table's rows (R291). -/
theorem decode_words_cmdbuf : ∀ p ∈ ([
    (0x0409C3A51E7, .rdCmdbuf0 0 0x9C3A51E7),
    (0x1419C3A51E7, .wrCmdbuf0 1 0x9C3A51E7),
    (0x0469C3A51E7, .rdCmdbuf1 2 0x9C3A51E7),
    (0x1479C3A51E7, .wrCmdbuf1 3 0x9C3A51E7),
    (0x0489C3A51E7, .rdCmdbuf2 0 0x9C3A51E7),
    (0x1499C3A51E7, .wrCmdbuf2 1 0x9C3A51E7),
    (0x04E9C3A51E7, .rdCmdbuf3 2 0x9C3A51E7),
    (0x14F9C3A51E7, .wrCmdbuf3 3 0x9C3A51E7),
    (0x0509C3A51E7, .rdCmdbuf4 0 0x9C3A51E7),
    (0x1519C3A51E7, .wrCmdbuf4 1 0x9C3A51E7),
    (0x0569C3A51E7, .rdCmdbuf5 2 0x9C3A51E7),
    (0x1579C3A51E7, .wrCmdbuf5 3 0x9C3A51E7),
    (0x0589C3A51E7, .rdCmdbuf6 0 0x9C3A51E7),
    (0x1599C3A51E7, .wrCmdbuf6 1 0x9C3A51E7),
    (0x05E9C3A51E7, .rdCmdbuf7 2 0x9C3A51E7),
    (0x15F9C3A51E7, .wrCmdbuf7 3 0x9C3A51E7),
    (0x0609C3A51E7, .rdCmdbuf8 0 0x9C3A51E7),
    (0x1619C3A51E7, .wrCmdbuf8 1 0x9C3A51E7)] : List (Txn × Instr)), decodeTxn p.1 = p.2 := by decide

/-- Words of the table's rows (R293). -/
theorem decode_words_rxbuf_1 : ∀ p ∈ ([
    (0x0809C3A51E7, .rdRxbuf0 0 0x9C3A51E7),
    (0x1819C3A51E7, .wrRxbuf0 1 0x9C3A51E7),
    (0x0869C3A51E7, .rdRxbuf1 2 0x9C3A51E7),
    (0x1879C3A51E7, .wrRxbuf1 3 0x9C3A51E7),
    (0x0889C3A51E7, .rdRxbuf2 0 0x9C3A51E7),
    (0x1899C3A51E7, .wrRxbuf2 1 0x9C3A51E7),
    (0x08E9C3A51E7, .rdRxbuf3 2 0x9C3A51E7),
    (0x18F9C3A51E7, .wrRxbuf3 3 0x9C3A51E7),
    (0x0909C3A51E7, .rdRxbuf4 0 0x9C3A51E7),
    (0x1919C3A51E7, .wrRxbuf4 1 0x9C3A51E7),
    (0x0969C3A51E7, .rdRxbuf5 2 0x9C3A51E7),
    (0x1979C3A51E7, .wrRxbuf5 3 0x9C3A51E7),
    (0x0989C3A51E7, .rdRxbuf6 0 0x9C3A51E7),
    (0x1999C3A51E7, .wrRxbuf6 1 0x9C3A51E7),
    (0x09E9C3A51E7, .rdRxbuf7 2 0x9C3A51E7),
    (0x19F9C3A51E7, .wrRxbuf7 3 0x9C3A51E7),
    (0x0A09C3A51E7, .rdRxbuf8 0 0x9C3A51E7),
    (0x1A19C3A51E7, .wrRxbuf8 1 0x9C3A51E7),
    (0x0A69C3A51E7, .rdRxbuf9 2 0x9C3A51E7),
    (0x1A79C3A51E7, .wrRxbuf9 3 0x9C3A51E7)] : List (Txn × Instr)), decodeTxn p.1 = p.2 := by decide

/-- Words of the table's rows (R293). -/
theorem decode_words_rxbuf_2 : ∀ p ∈ ([
    (0x0A89C3A51E7, .rdRxbuf10 0 0x9C3A51E7),
    (0x1A99C3A51E7, .wrRxbuf10 1 0x9C3A51E7),
    (0x0AE9C3A51E7, .rdRxbuf11 2 0x9C3A51E7),
    (0x1AF9C3A51E7, .wrRxbuf11 3 0x9C3A51E7),
    (0x0B09C3A51E7, .rdRxbuf12 0 0x9C3A51E7),
    (0x1B19C3A51E7, .wrRxbuf12 1 0x9C3A51E7),
    (0x0B69C3A51E7, .rdRxbuf13 2 0x9C3A51E7),
    (0x1B79C3A51E7, .wrRxbuf13 3 0x9C3A51E7),
    (0x0B89C3A51E7, .rdRxbuf14 0 0x9C3A51E7),
    (0x1B99C3A51E7, .wrRxbuf14 1 0x9C3A51E7),
    (0x0BE9C3A51E7, .rdRxbuf15 2 0x9C3A51E7),
    (0x1BF9C3A51E7, .wrRxbuf15 3 0x9C3A51E7),
    (0x0C09C3A51E7, .rdRxbuf16 0 0x9C3A51E7),
    (0x1C19C3A51E7, .wrRxbuf16 1 0x9C3A51E7),
    (0x0C69C3A51E7, .rdRxbuf17 2 0x9C3A51E7),
    (0x1C79C3A51E7, .wrRxbuf17 3 0x9C3A51E7),
    (0x0C89C3A51E7, .rdRxbuf18 0 0x9C3A51E7),
    (0x1C99C3A51E7, .wrRxbuf18 1 0x9C3A51E7),
    (0x0CE9C3A51E7, .rdRxbuf19 2 0x9C3A51E7),
    (0x1CF9C3A51E7, .wrRxbuf19 3 0x9C3A51E7)] : List (Txn × Instr)), decodeTxn p.1 = p.2 := by decide

/-- Words of the table's rows (R295). -/
theorem decode_words_unmapped : ∀ p ∈ ([
    (0x03B9C3A51E7, .rdUnmapped30To3C 0xB 0x9C3A51E7),
    (0x13B9C3A51E7, .wrUnmapped30To3C 0xB 0x9C3A51E7),
    (0x0669C3A51E7, .rdUnmapped64 2 0x9C3A51E7),
    (0x1679C3A51E7, .wrUnmapped64 3 0x9C3A51E7),
    (0x0689C3A51E7, .rdUnmapped68 0 0x9C3A51E7),
    (0x1699C3A51E7, .wrUnmapped68 1 0x9C3A51E7),
    (0x06E9C3A51E7, .rdUnmapped6C 2 0x9C3A51E7),
    (0x16F9C3A51E7, .wrUnmapped6C 3 0x9C3A51E7),
    (0x07B9C3A51E7, .rdUnmapped70To7C 0xB 0x9C3A51E7),
    (0x17B9C3A51E7, .wrUnmapped70To7C 0xB 0x9C3A51E7),
    (0x0DB9C3A51E7, .rdUnmappedD0ToDC 0xB 0x9C3A51E7),
    (0x1DB9C3A51E7, .wrUnmappedD0ToDC 0xB 0x9C3A51E7),
    (0x0FA9C3A51E7, .rdUnmappedE0ToFC 0x1A 0x9C3A51E7),
    (0x1FA9C3A51E7, .wrUnmappedE0ToFC 0x1A 0x9C3A51E7)] : List (Txn × Instr)), decodeTxn p.1 = p.2 := by decide

end Sys2Proof
end

