-- ==== Sys2Proof/Machine/Ports.lean ====
section
/-! DEFINITION. The block's ports (10_state.md R60 to R64): the inputs sampled in one clock cycle and the outputs driven
in it. -/

namespace Sys2Proof.Machine

/-- The input ports as sampled in one clock cycle: the argument `in` of STEP (44_sequencer.md R254). -/
structure Inputs where
  /-- synchronous active-high reset (R60) -/
  rst : Bool
  /-- one pulse per elapsed millisecond (R61) -/
  tickMs : Bool
  /-- the UART accepts the offered byte in this cycle (R62) -/
  txReady : Bool
  /-- the UART offers a received byte (R62) -/
  rxValid : Bool
  /-- the byte offered, meaningful with `rxValid` (R62, R335) -/
  rxData : Byte
  /-- host bus write enable (R63) -/
  hbWe : Bool
  /-- host bus byte offset (R63) -/
  hbAddr : BitVec 8
  /-- host bus write data (R63) -/
  hbWdata : Word
  deriving DecidableEq, Repr, Inhabited

/-- The output ports as driven in one clock cycle (R62 to R64). -/
structure Outputs where
  txValid : Bool
  txData : Byte
  rxReady : Bool
  irq : Bool
  hbRdata : Word
  deriving DecidableEq, Repr

/-- The host bus ports of a sample as one transaction word, `{WE, ADDR, DATA}` (30_encoding.md R115). -/
def Inputs.txn (p : Inputs) : Txn :=
  ((BitVec.ofBool p.hbWe).setWidth 41 <<< 40) ||| (p.hbAddr.setWidth 41 <<< 32) ||| p.hbWdata.setWidth 41

/-- No reset, no tick, no byte in either direction and a read of offset 0x00 on the host bus. -/
def Inputs.quiet : Inputs :=
  { rst := false, tickMs := false, txReady := false, rxValid := false, rxData := 0
    hbWe := false, hbAddr := 0, hbWdata := 0 }

/-- `p` with the transaction `w` on its host bus ports and `rst` low, since a write in a reset cycle is lost
(70_reset_and_hazards.md R330). -/
def Inputs.withTxn (p : Inputs) (w : Txn) : Inputs :=
  { p with rst := false, hbWe := w.getLsbD 40, hbAddr := w.extractLsb' 32 8, hbWdata := w.extractLsb' 0 32 }

end Sys2Proof.Machine
end

