-- ==== Sys2Proof/Config.lean ====
section
/-! DEFINITION. What an instance of the block fixes for its life (00_scope.md R7 to R11): the protocol constants under
their own names with the document's values (R11), the OPEN parameters as opaque constants, and the one free value, the
environment's input. -/

namespace Sys2Proof.Config

/-! ## Protocol constants (R11). The document's literals are unaudited (92_eei_decisions.md D31, log 4). -/

/-- K_START, the start marker of a status frame. -/
def kStart : Byte := 0xBB
/-- K_REPLY, the reply type in status byte 1. -/
def kReply : Byte := 0x01
/-- K_CMD_LEN, the length of the command frame. -/
abbrev kCmdLen : Nat := 35
/-- K_QRY_LEN, the length of the query frame. -/
abbrev kQryLen : Nat := 8
/-- K_RX_CAP, the capacity of the receive buffer. -/
abbrev kRxCap : Nat := 80
/-- K_CSUM_LAST, the last byte the checksum covers. -/
abbrev kCsumLast : Nat := 33
/-- K_CSUM_POS, the byte that holds the checksum. -/
abbrev kCsumPos : Nat := 34
/-- K_TBASE, from which the temperature code is subtracted. -/
def kTBase : Byte := 0x6F
/-- K_T_LO, the exclusive lower bound of a requested set-point in °C. -/
abbrev kTLo : Nat := 15
/-- K_T_HI, the exclusive upper bound of a requested set-point in °C. -/
abbrev kTHi : Nat := 32
/-- K_HALF_TH, the half-degree threshold in hundredths. -/
abbrev kHalfTh : Nat := 49
/-- K_SET_OFS, the offset of the set-point nibble. -/
def kSetOfs : Byte := 16
/-- K_TMO, the read budget in ticks. -/
abbrev kTmo : Nat := 500
/-- K_SETTLE, the settle delay in ticks. -/
abbrev kSettle : Nat := 700
/-- K_REFRESH, the periodic refresh period in ticks. -/
abbrev kRefresh : Nat := 30000
/-- MODE_TABLE[0..4], the command mode codes of cool, fan, dry, heat, auto. -/
def modeTable : List Byte := [3, 7, 2, 1, 8]
/-- SPEED_TABLE[0..5], the command fan-speed codes. -/
def speedTable : List Byte := [0, 2, 6, 3, 7, 5]
/-- FAN_REV, the status fan code (the masked byte) and its speed index. -/
def fanRevTable : List (Byte × BitVec 3) :=
  [(0x80, 0), (0x90, 1), (0xC0, 2), (0xA0, 3), (0xD0, 4), (0xB0, 5)]

/-! ## OPEN parameters (R7 to R9, R86): no value is given, none is chosen (log 3). -/

/-- CMD_TEMPLATE[i], byte i of the command template (R7). -/
opaque cmdTemplate : Nat → Byte
/-- QUERY_FRAME[i], byte i of the query frame (R8). -/
opaque queryFrame : Nat → Byte
/-- CONV_ROOM, the host's conversion of status byte 17 to hundredths of a degree (R9; the result type is log 16). -/
opaque convRoom : Byte → Int
/-- CONV_PIPE, for status byte 30 (R9). -/
opaque convPipe : Byte → Int
/-- CONV_OUT, for status byte 36 (R9). -/
opaque convOut : Byte → Int
/-- CONV_OUTPIPE, for status byte 37 (R9). -/
opaque convOutpipe : Byte → Int
/-- DUFC_BASE, the base address of the block on its host (20_memory.md R86). -/
opaque dufcBase : Nat

/-! ## The free value -/

/-- What the environment puts on the input ports in the n-th cycle when the state lists no sample for it. Nothing
constrains it (93_implementation_defined.md I14, I17 to I20; log 1). -/
opaque environment : Nat → Machine.Inputs

end Sys2Proof.Config
end

