-- ==== Sys2Proof/Machine/State.lean ====
section
/-! DEFINITION. The state of the block (10_state.md R30 to R66), the reasons a step can stop, and the state after reset
(R66). The last four fields of `State` are the model's own, not the spec's (INVENTORY.md, State). -/

namespace Sys2Proof.Machine

/-- Why the machine stops. The spec names no fault: "There are no fatal errors within the core" (60_exceptions.md R305).
Both reasons are an access to an array byte that does not exist, in a state no run reaches (log 5). -/
inductive Fault where
  /-- ACC_BYTE would store at an index past the receive buffer (R41, R217: the index is always in range in a reachable
  state). Raised by ACC_BYTE. Safe: the model stops where the spec gives no byte to write. -/
  | rxIndexBeyondBuffer
  /-- TX_CMD_BYTE or TX_QRY_BYTE would send a byte past the end of its frame (R43, R65). Raised by those two
  operations. Safe: the model stops where the spec gives no byte to send. -/
  | txIndexBeyondFrame
  deriving DecidableEq, Repr

/-- Why the model has no meaning for an operation. -/
inductive Refusal where
  /-- The operation of the opcode table with this mnemonic has no meaning yet; raised by `exec` alone. Safe: the model
  stops. No arm of `exec` raises it. -/
  | notModelled (mnemonic : String)
  deriving DecidableEq, Repr

/-- STATE, the sequencer state (R44). Value 7 does not exist (30_encoding.md R124). -/
inductive SeqState where
  | idle | txCmd | settle | txQry | hunt | acc | decode
  deriving DecidableEq, Repr

/-- ORIGIN, what started the current or most recent exchange (R45). -/
inductive Origin where
  | startup | periodic | hostRefresh | apply
  deriving DecidableEq, Repr

/-- The DeviceState register file DS (R31 to R38). -/
structure DeviceState where
  /-- DS_POWER (R31) -/
  power : Bool
  /-- DS_ECO (R32) -/
  eco : Bool
  /-- DS_TURBO (R33) -/
  turbo : Bool
  /-- DS_MODE (R34) -/
  mode : BitVec 3
  /-- DS_SPEED (R35) -/
  speed : BitVec 3
  /-- DS_SETPT_INT (R36) -/
  setptInt : Byte
  /-- DS_SETPT_HALF (R37) -/
  setptHalf : Bool
  /-- DS_RAW_ROOM (R38) -/
  rawRoom : Byte
  /-- DS_RAW_PIPE (R38) -/
  rawPipe : Byte
  /-- DS_RAW_OUT (R38) -/
  rawOut : Byte
  /-- DS_RAW_OUTPIPE (R38) -/
  rawOutpipe : Byte
  deriving DecidableEq, Repr

/-- The state of the machine: every element of R30, then the model's own record of the ports. -/
structure State where
  /-- DS (R31 to R38) -/
  ds : DeviceState
  /-- T_LAST_POLL (R39) -/
  tLastPoll : Word
  /-- T_LAST_CMD (R39) -/
  tLastCmd : Word
  /-- CMD[0..34] (R40) -/
  cmd : Vector Byte Config.kCmdLen
  /-- RXBUF[0..79] (R41) -/
  rxbuf : Vector Byte Config.kRxCap
  /-- RX_CNT (R42) -/
  rxCnt : BitVec 7
  /-- TX_IDX (R43) -/
  txIdx : BitVec 6
  /-- STATE (R44) -/
  seqState : SeqState
  /-- ORIGIN (R45) -/
  origin : Origin
  /-- TMO_CNT (R46) -/
  tmoCnt : BitVec 10
  /-- SET_CNT (R47) -/
  setCnt : BitVec 10
  /-- REF_CNT (R48) -/
  refCnt : BitVec 15
  /-- NOW (R49) -/
  now : Word
  /-- REQ (R50) -/
  req : Word
  /-- EVT (R53) -/
  evt : BitVec 6
  /-- IEN (R54) -/
  ien : BitVec 6
  /-- LAST_VALID (R55) -/
  lastValid : Bool
  /-- model's own: input samples listed for the coming cycles, the first one for the next cycle (log 1) -/
  inputs : List Inputs
  /-- model's own: how many cycles have run, the argument of `Config.environment` (log 1) -/
  cycle : Nat
  /-- model's own: the output ports as driven in the cycle just run (log 9) -/
  out : Outputs
  /-- model's own: the bytes the UART has accepted, in order (20_memory.md R80 (4); log 10) -/
  wireTx : List Byte
  deriving DecidableEq, Repr

/-- DS after reset (R66). -/
def DeviceState.reset : DeviceState :=
  { power := false, eco := false, turbo := false, mode := 5, speed := 0, setptInt := 16, setptHalf := false
    rawRoom := 0, rawPipe := 0, rawOut := 0, rawOutpipe := 0 }

/-- CMD after reset, the template (R40, R66). -/
def cmdReset : Vector Byte Config.kCmdLen := Vector.ofFn fun i => Config.cmdTemplate i

/-- RXBUF after reset and after POLL_START: all 0x00 (R41, R66, 43_frame_sync.md R214). -/
def rxbufZero : Vector Byte Config.kRxCap := Vector.replicate Config.kRxCap 0

/-- The machine right after reset (R66); the model's own fields as log 1, log 9 and log 10 say. -/
def State.reset : State :=
  { ds := DeviceState.reset
    tLastPoll := 0
    tLastCmd := 0
    cmd := cmdReset
    rxbuf := rxbufZero
    rxCnt := 0
    txIdx := 0
    seqState := .txQry
    origin := .startup
    tmoCnt := 0
    setCnt := 0
    refCnt := 0
    now := 0
    req := 0x3F700000
    evt := 0
    ien := 0
    lastValid := false
    inputs := []
    cycle := 0
    out := { txValid := false, txData := 0, rxReady := false, irq := false, hbRdata := 0 }
    wireTx := [] }

end Sys2Proof.Machine
end

