-- ==== Sys2Proof/Machine/Operands.lean ====
section
/-! DEFINITION. The operand forms: the fields of REQ (10_state.md R50), the bytes of CMD and RXBUF (20_memory.md R80),
the fallback selections and the normalising helpers (00_scope.md R17). -/

namespace Sys2Proof.Machine

/-! ## Bytes of the register arrays -/

/-- Byte i of CMD. The bytes past CMD[34] that the window word 0x60 covers read 0x00 (20_memory.md R82). -/
def State.cmdByte (s : State) (i : Nat) : Byte := s.cmd[i]?.getD 0

/-- Byte i of RXBUF; the array has no byte past RXBUF[79]. -/
def State.rxByte (s : State) (i : Nat) : Byte := s.rxbuf[i]?.getD 0

/-! ## Fields of a register word -/

/-- The word in which the field `v` stands at bit `n` and every other bit is 0: `zext_32(v) << n` (30_encoding.md R113). -/
def fieldAt {k : Nat} (v : BitVec k) (n : Nat) : Word := v.setWidth 32 <<< n

/-- `{b3, b2, b1, b0}`: four bytes as one word, the first in the high bits (00_scope.md R14). -/
def wordOfBytes (b3 b2 b1 b0 : Byte) : Word := fieldAt b3 24 ||| fieldAt b2 16 ||| fieldAt b1 8 ||| fieldAt b0 0

/-! ## Fields of REQ (R50, 30_encoding.md R113) -/

/-- The bits of REQ that exist; bits 23, 30 and 31 are reserved (45_host_bus.md R274). -/
def reqMask : Word := 0x3F7FFFFF

/-- REQ.TEMP, the requested set-point in hundredths of °C. -/
def reqTemp (req : Word) : BitVec 16 := req.extractLsb' 0 16
/-- REQ.MODE. -/
def reqMode (req : Word) : BitVec 4 := req.extractLsb' 16 4
/-- REQ.SPEED. -/
def reqSpeed (req : Word) : BitVec 3 := req.extractLsb' 20 3
/-- REQ.POWER. -/
def reqPower (req : Word) : BitVec 2 := req.extractLsb' 24 2
/-- REQ.ECO. -/
def reqEco (req : Word) : BitVec 2 := req.extractLsb' 26 2
/-- REQ.TURBO. -/
def reqTurbo (req : Word) : BitVec 2 := req.extractLsb' 28 2

/-- A REQ word from its fields (R113). -/
def packReq (temp : BitVec 16) (mode : BitVec 4) (speed : BitVec 3) (power eco turbo : BitVec 2) : Word :=
  fieldAt temp 0 ||| fieldAt mode 16 ||| fieldAt speed 20 ||| fieldAt power 24 ||| fieldAt eco 26 ||| fieldAt turbo 28

/-! ## Normalising helpers (00_scope.md R17) -/

/-- `in_range_t`: strictly between K_T_LO and K_T_HI degrees, in hundredths. -/
def inRangeT (t : Nat) : Bool := 100 * Config.kTLo < t && t < 100 * Config.kTHi

/-- `norm_mode`: a mode index outside 1..5 reads as 5. -/
def normMode (m : Nat) : Nat := if 1 ≤ m ∧ m ≤ 5 then m else 5

/-- `norm_speed`: a speed index outside 0..5 reads as 0. -/
def normSpeed (n : Nat) : Nat := if n ≤ 5 then n else 0

/-! ## Selection between a request field and its fallback (40_encoder.md R142 to R147) -/

/-- A 2-bit flag field: 0 and 1 are requested values, 2 and 3 take the fallback (R142, R143, R145). -/
def flagSel (field : BitVec 2) (fallback : Bool) : Bool :=
  if field = 0 ∨ field = 1 then field.getLsbD 0 else fallback

/-- `mode_sel()`, a mode index (R144). -/
def modeSel (req : Word) (ds : DeviceState) : Nat :=
  if 1 ≤ (reqMode req).toNat ∧ (reqMode req).toNat ≤ 5 then (reqMode req).toNat else normMode ds.mode.toNat

/-- `speed_sel()`, a fan-speed index (R147). -/
def speedSel (req : Word) (ds : DeviceState) : Nat :=
  if (reqSpeed req).toNat ≤ 5 then (reqSpeed req).toNat else normSpeed ds.speed.toNat

/-- The temperature code of `temp_sel()`, command byte 9 (R146). -/
def tempCode (req : Word) (ds : DeviceState) : Byte :=
  if inRangeT (reqTemp req).toNat then Config.kTBase - BitVec.ofNat 8 ((reqTemp req).toNat / 100)
  else Config.kTBase - ds.setptInt

/-- The half-degree bit of `temp_sel()`, where `old` is the bit CMD[11] holds (R146). -/
def halfSel (req : Word) (old : Bool) : Bool :=
  if inRangeT (reqTemp req).toNat then Config.kHalfTh ≤ (reqTemp req).toNat % 100 else old

/-! ## Bits and table codes of the command frame (30_encoding.md R101 to R105) -/

/-- The byte whose bit n is b and whose other bits are 0. -/
def bitAt (b : Bool) (n : Nat) : Byte := if b then 1#8 <<< n else 0

/-- `mode_code(i)` for i in 1..5 (40_encoder.md R141). -/
def modeCode (i : Nat) : Byte := Config.modeTable[i - 1]?.getD 0

/-- `speed_code(i)` for i in 0..5 (R141). -/
def speedCode (i : Nat) : Byte := Config.speedTable[i]?.getD 0

end Sys2Proof.Machine
end

