-- ==== Sys2Proof/Machine/Encoder.lean ====
section
/-! DEFINITION. The command-frame encoder and the checksum generator (40_encoder.md, 41_checksum.md): the pure functions
and the meanings of ENCODE and XORFOLD. -/

namespace Sys2Proof.Machine

/-! ## Checksum (41_checksum.md R170) -/

/-- `XORFOLD(buf, a, b)`: the XOR of buf[a] to buf[b], 0x00 when the range is empty. A byte past the end of `buf`
contributes nothing (log 21). -/
def xorFold (buf : List Byte) (a b : Nat) : Byte := ((buf.drop a).take (b + 1 - a)).foldl (· ^^^ ·) 0

/-- The frame with its checksum byte replaced by the fold over the bytes before it (R171, 30_encoding.md R106). -/
def withChecksum (f : Vector Byte Config.kCmdLen) : Vector Byte Config.kCmdLen :=
  f.setIfInBounds Config.kCsumPos (xorFold f.toList 0 Config.kCsumLast)

/-! ## Frame bytes (40_encoder.md R140; the preserve masks are those of 30_encoding.md R101, R102, R105) -/

/-- Command byte 7: eco in bit 7, power in bit 2, the template bits kept. -/
def encodeByte7 (old : Byte) (req : Word) (ds : DeviceState) : Byte :=
  (old &&& 0x7B) ||| bitAt (flagSel (reqEco req) ds.eco) 7 ||| bitAt (flagSel (reqPower req) ds.power) 2

/-- Command byte 8: turbo in bit 6, the mode code in the low nibble, the template bits kept. -/
def encodeByte8 (old : Byte) (req : Word) (ds : DeviceState) : Byte :=
  (old &&& 0xB0) ||| bitAt (flagSel (reqTurbo req) ds.turbo) 6 ||| modeCode (modeSel req ds)

/-- Command byte 11: the half-degree flag in bit 1, the template bits kept. -/
def encodeByte11 (old : Byte) (req : Word) : Byte :=
  (old &&& 0xFD) ||| bitAt (halfSel req (old.getLsbD 1)) 1

/-- ENCODE as a function of REQ, DS and the current frame (R140, R149). -/
def encodeFrame (req : Word) (ds : DeviceState) (cmd : Vector Byte Config.kCmdLen) : Vector Byte Config.kCmdLen :=
  withChecksum
    (((((cmd.setIfInBounds 7 (encodeByte7 (cmd[7]?.getD 0) req ds)).setIfInBounds 8
      (encodeByte8 (cmd[8]?.getD 0) req ds)).setIfInBounds 9 (tempCode req ds)).setIfInBounds 10
      (speedCode (speedSel req ds))).setIfInBounds 11 (encodeByte11 (cmd[11]?.getD 0) req))

/-- ENCODE's writes: CMD and nothing else (R140). -/
def State.encodeCmd (s : State) : State := { s with cmd := encodeFrame s.req s.ds s.cmd }

/-! ## Readback of a command frame, a helper for statements (R150) -/

/-- `rb_power`. -/
def rbPower (f : Vector Byte Config.kCmdLen) : Bool := (f[7]?.getD 0).getLsbD 2
/-- `rb_eco`. -/
def rbEco (f : Vector Byte Config.kCmdLen) : Bool := (f[7]?.getD 0).getLsbD 7
/-- `rb_turbo`. -/
def rbTurbo (f : Vector Byte Config.kCmdLen) : Bool := (f[8]?.getD 0).getLsbD 6
/-- `rb_mode`: the index whose MODE_TABLE code is the low nibble of byte 8, if there is one. -/
def rbMode (f : Vector Byte Config.kCmdLen) : Option Nat :=
  [1, 2, 3, 4, 5].find? fun i => modeCode i = (f[8]?.getD 0) &&& 0x0F
/-- `rb_speed`: the index whose SPEED_TABLE code is byte 10, if there is one. -/
def rbSpeed (f : Vector Byte Config.kCmdLen) : Option Nat :=
  [0, 1, 2, 3, 4, 5].find? fun i => speedCode i = f[10]?.getD 0
/-- `rb_tint`. -/
def rbTint (f : Vector Byte Config.kCmdLen) : Byte := Config.kTBase - f[9]?.getD 0
/-- `rb_half`. -/
def rbHalf (f : Vector Byte Config.kCmdLen) : Bool := (f[11]?.getD 0).getLsbD 1

/-! ## Meanings -/

/-- ENCODE: the frame of R140, checksum included. It is a part of an accepted APPLY and acts whenever it is issued
(log 7). -/
def execEncode (s : State) : Host.Outcome State Fault Refusal := .next s.encodeCmd

/-- XORFOLD: the checksum generator writes CMD[34] from CMD[0..33] (41_checksum.md R171). It is a part of ENCODE and
acts whenever it is issued (log 7). -/
def execXorfold (s : State) : Host.Outcome State Fault Refusal := .next { s with cmd := withChecksum s.cmd }

end Sys2Proof.Machine
end

