-- ==== Sys2Proof/Machine/Flags.lean ====
section
/-! DEFINITION. The sticky event flags EVT and the interrupt line (60_exceptions.md R300 to R303). Raising an event is
this block's one form of exception: it is recorded beside the normal transition of its cycle (R305). -/

namespace Sys2Proof.Machine

/-- The six event causes (R301). -/
inductive Event where
  | done | updated | notReply | dropped | badop | timeout
  deriving DecidableEq, Repr

/-- The code of an event: its bit number in EVT (R301). -/
def eventCode : Event → Nat
  | .done => 0
  | .updated => 1
  | .notReply => 2
  | .dropped => 3
  | .badop => 4
  | .timeout => 5

/-- The EVT word in which only that event's bit is 1. -/
def eventBit (e : Event) : BitVec 6 := 1#6 <<< eventCode e

/-- `raise Event(e)`: bit e of EVT becomes 1 and nothing else changes (R300). -/
def State.raise (s : State) (e : Event) : State := { s with evt := s.evt ||| eventBit e }

/-- The write-1-to-clear of EVT, the host's acknowledgement (45_host_bus.md R277, R306). -/
def State.clearEvents (s : State) (clr : BitVec 6) : State := { s with evt := s.evt &&& ~~~clr }

/-- The level of the interrupt line, `(EVT & IEN) != 0` (R302, 10_state.md R64). -/
def State.irq (s : State) : Bool := s.evt &&& s.ien != 0

end Sys2Proof.Machine
end

