-- ==== Sys2Proof/Machine/Decoder.lean ====
section
/-! DEFINITION. The status-frame decoder (42_decoder.md): validity, field extraction, the derived logical values, and
the meaning of DECODE. -/

namespace Sys2Proof.Machine

/-! ## Validity and fields (R181 to R189) -/

/-- The validity check: byte 0 is K_START and byte 1 is K_REPLY (R181, 30_encoding.md R118). -/
def State.replyValid (s : State) : Bool := s.rxByte 0 == Config.kStart && s.rxByte 1 == Config.kReply

/-- `fan_rev(x)`: the speed index of a masked fan code, none where the table has no match (R188). -/
def fanRev (x : Byte) : Option (BitVec 3) := Config.fanRevTable.lookup x

/-- The DS registers a valid frame writes (R183 to R189); an unmatched fan code keeps DS_SPEED. -/
def State.decodedDs (s : State) : DeviceState :=
  { power := (s.rxByte 7).getLsbD 4
    eco := (s.rxByte 7).getLsbD 6
    turbo := (s.rxByte 7).getLsbD 7
    mode := BitVec.ofNat 3 (normMode ((s.rxByte 7).extractLsb' 0 4).toNat)
    speed := (fanRev (s.rxByte 8 &&& 0xF0)).getD s.ds.speed
    setptInt := ((s.rxByte 8).extractLsb' 0 4).setWidth 8 + Config.kSetOfs
    setptHalf := (s.rxByte 9).getLsbD 1
    rawRoom := s.rxByte 17
    rawPipe := s.rxByte 30
    rawOut := s.rxByte 36
    rawOutpipe := s.rxByte 37 }

/-! ## Derived logical values (R190 to R192) -/

/-- The logical modes (R190). -/
inductive LogicalMode where
  | cool | fan | dry | heat | auto
  deriving DecidableEq, Repr

/-- `mode_of` (R190); a code outside 1..5 reads as auto, as R186 reads a nibble. -/
def modeOf (m : BitVec 3) : LogicalMode :=
  if m = 1 then .cool else if m = 2 then .fan else if m = 3 then .dry else if m = 4 then .heat else .auto

/-- `fan_mode_of`: 0 auto, 1 low, 2 medium, 3 high (R191). -/
def fanModeOf (n : BitVec 3) : BitVec 2 :=
  if n = 1 then 1 else if n = 2 then 2 else if n = 3 ∨ n = 4 ∨ n = 5 then 3 else 0

/-- `preset_of`: 0 none, 1 eco, 2 boost, eco before turbo (R192). -/
def presetOf (eco turbo : Bool) : BitVec 2 := if eco then 1 else if turbo then 2 else 0

/-! ## The operation -/

/-- The writes of the DECODE cycle (R180): the commit of R181 on a valid frame, R182 on any other, then DONE and IDLE. -/
def State.decodeCommit (s : State) : State :=
  if s.replyValid then
    { (({ s with ds := s.decodedDs, tLastPoll := s.now, lastValid := true }).raise .updated).raise .done with
      seqState := .idle }
  else
    { (({ s with lastValid := false }).raise .notReply).raise .done with seqState := .idle }

/-- DECODE runs in the cycle in which STATE = DECODE (R180) and does nothing in any other (log 7). -/
def execDecode (s : State) : Host.Outcome State Fault Refusal :=
  if s.seqState = .decode then .next s.decodeCommit else .next s

end Sys2Proof.Machine
end

