-- ==== Sys2Proof/Machine/Views.lean ====
section
/-! DEFINITION. What the host reads: the views of 10_state.md R52 to R58, the buffer windows (45_host_bus.md R291, R293)
and the complete read map (R296). -/

namespace Sys2Proof.Machine

/-- The 3-bit code of STATE (10_state.md R44). -/
def seqCode : SeqState → BitVec 3
  | .idle => 0
  | .txCmd => 1
  | .settle => 2
  | .txQry => 3
  | .hunt => 4
  | .acc => 5
  | .decode => 6

/-- The 2-bit code of ORIGIN (R45). -/
def originCode : Origin → BitVec 2
  | .startup => 0
  | .periodic => 1
  | .hostRefresh => 2
  | .apply => 3

/-- STATUS.BUSY (R52). -/
def State.busy (s : State) : Bool := s.seqState ≠ .idle

/-- STATUS.REF_DUE: a periodic refresh is due (R48, R52). -/
def State.refDue (s : State) : Bool := Config.kRefresh ≤ s.refCnt.toNat

/-- STATUS (R52). -/
def statusView (s : State) : Word :=
  fieldAt (seqCode s.seqState) 0 ||| fieldAt (BitVec.ofBool s.busy) 3 ||| fieldAt (BitVec.ofBool s.refDue) 4
    ||| fieldAt (BitVec.ofBool s.lastValid) 5 ||| fieldAt (originCode s.origin) 6 ||| fieldAt s.rxCnt 8
    ||| fieldAt s.txIdx 16

/-- DEV0 (R56). -/
def dev0View (s : State) : Word :=
  fieldAt (BitVec.ofBool s.ds.power) 0 ||| fieldAt (BitVec.ofBool s.ds.eco) 1 ||| fieldAt (BitVec.ofBool s.ds.turbo) 2
    ||| fieldAt (BitVec.ofBool s.ds.setptHalf) 3 ||| fieldAt s.ds.mode 4 ||| fieldAt s.ds.speed 8
    ||| fieldAt (fanModeOf s.ds.speed) 12 ||| fieldAt (presetOf s.ds.eco s.ds.turbo) 14 ||| fieldAt s.ds.setptInt 16

/-- DEV1 (R57). -/
def dev1View (s : State) : Word := wordOfBytes s.ds.rawOutpipe s.ds.rawOut s.ds.rawPipe s.ds.rawRoom

/-- TMR0 (R58, 45_host_bus.md R284). -/
def tmr0View (s : State) : Word := fieldAt s.setCnt 16 ||| fieldAt s.tmoCnt 0

/-- TMR1 (R58, R285). -/
def tmr1View (s : State) : Word := fieldAt s.refCnt 0

/-- EVT as a register word (R277). -/
def evtView (s : State) : Word := fieldAt s.evt 0

/-- IEN as a register word (R276). -/
def ienView (s : State) : Word := fieldAt s.ien 0

/-- CMDBUF window word k, little-endian (R291). -/
def cmdWindow (s : State) (k : Nat) : Word :=
  wordOfBytes (s.cmdByte (4 * k + 3)) (s.cmdByte (4 * k + 2)) (s.cmdByte (4 * k + 1)) (s.cmdByte (4 * k))

/-- RXBUF window word k, little-endian (R293). -/
def rxWindow (s : State) (k : Nat) : Word :=
  wordOfBytes (s.rxByte (4 * k + 3)) (s.rxByte (4 * k + 2)) (s.rxByte (4 * k + 1)) (s.rxByte (4 * k))

/-- VIEW(w): what the host bus returns for word index `w = hb_addr[7:2]` (R270, R296). -/
def hostView (s : State) (w : Nat) : Word :=
  match w with
  | 0 => 0
  | 1 => s.req
  | 2 => statusView s
  | 3 => evtView s
  | 4 => ienView s
  | 5 => dev0View s
  | 6 => dev1View s
  | 7 => s.now
  | 8 => s.tLastPoll
  | 9 => s.tLastCmd
  | 10 => tmr0View s
  | 11 => tmr1View s
  | _ => if 16 ≤ w ∧ w ≤ 24 then cmdWindow s (w - 16) else if 32 ≤ w ∧ w ≤ 51 then rxWindow s (w - 32) else 0

/-! ## Transport outputs (43_frame_sync.md R210) -/

/-- tx_valid. -/
def State.txValid (s : State) : Bool := s.seqState = .txCmd ∨ s.seqState = .txQry

/-- The byte the transmit engine offers: CMD[TX_IDX] or QUERY_FRAME[TX_IDX], none past the end of the frame (R211,
R213). -/
def State.txOffer (s : State) : Option Byte :=
  match s.seqState with
  | .txCmd => s.cmd[s.txIdx.toNat]?
  | .txQry => if s.txIdx.toNat < Config.kQryLen then some (Config.queryFrame s.txIdx.toNat) else none
  | _ => none

/-- tx_data: the byte offered, 0x00 outside the transmit states (R210; log 6 for an index past the frame). -/
def State.txData (s : State) : Byte := s.txOffer.getD 0

/-- rx_ready. -/
def State.rxReady (s : State) : Bool := s.seqState = .hunt ∨ s.seqState = .acc

end Sys2Proof.Machine
end

