-- ==== Sys2Proof/Machine/Ops.lean ====
section
/-! DEFINITION. The operations the meanings share: driving read data, starting a poll and accepting the host's
operations, storing a received byte, the counters, and the environment's samples. Raising an event, the block's one form
of exception, is `State.raise` (Flags.lean). -/

namespace Sys2Proof.Machine

/-! ## Host bus (45_host_bus.md R270, R271) -/

/-- hb_rdata carries `v` in this cycle (R270). -/
def State.driveRdata (s : State) (v : Word) : State := { s with out := { s.out with hbRdata := v } }

/-- A bus access whose only effect is the value it returns: every read, and every write the block ignores (20_memory.md
R84, R283). -/
def busAccess (v : Word) (s : State) : Host.Outcome State Fault Refusal := .next (s.driveRdata v)

/-! ## Starting an exchange (44_sequencer.md R241 to R247) -/

/-- POLL_START (43_frame_sync.md R214). -/
def State.pollStart (s : State) : State := { s with txIdx := 0, rxCnt := 0, rxbuf := rxbufZero, refCnt := 0 }

/-- REFRESH_ACCEPT (R244), PERIODIC_START (R255) and the end of SETTLE (R221) move to TX_QRY through POLL_START. -/
def State.enterPoll (s : State) : State := { s.pollStart with seqState := .txQry }

/-- APPLY_ACCEPT (R243). -/
def State.applyAccept (s : State) : State :=
  { s.encodeCmd with txIdx := 0, origin := .apply, tLastCmd := s.now, seqState := .txCmd }

/-- REFRESH_ACCEPT (R244). -/
def State.refreshAccept (s : State) : State := { s.enterPoll with origin := .hostRefresh }

/-- PERIODIC_START (R255). -/
def State.periodicStart (s : State) : State := { s.enterPoll with origin := .periodic }

/-- A host operation is accepted in IDLE only; in any other state it is dropped and raises DROPPED (R246). -/
def acceptInIdle (accept : State → State) (s : State) : State :=
  if s.seqState = .idle then accept s else s.raise .dropped

/-- Every state element takes its reset value (R66, 70_reset_and_hazards.md R330); the model's record of the ports is no
state element and stays (log 10). -/
def State.resetBlock (s : State) : State :=
  { State.reset with inputs := s.inputs, cycle := s.cycle, out := s.out, wireTx := s.wireTx }

/-! ## Receive (43_frame_sync.md R216, R217) -/

/-- Store one byte at RXBUF[RX_CNT] and count it (R217). An index past the buffer faults (log 5). -/
def storeByte (b : Byte) (s : State) : Host.Outcome State Fault Refusal :=
  if s.rxCnt.toNat < Config.kRxCap then
    .next { s with rxbuf := s.rxbuf.setIfInBounds s.rxCnt.toNat b, rxCnt := s.rxCnt + 1 }
  else .fault .rxIndexBeyondBuffer

/-! ## Transmit (R211, R213) -/

/-- The byte offered is accepted: it joins the transmit stream; after the last byte of the frame TX_IDX returns to 0 and
`finish` moves on, before it TX_IDX advances (R211, R213). An index past the frame faults (log 5). -/
def sendByte (len : Nat) (finish : State → State) (s : State) : Host.Outcome State Fault Refusal :=
  match s.txOffer with
  | none => .fault .txIndexBeyondFrame
  | some b =>
    if s.txIdx.toNat = len - 1 then .next (finish { s with wireTx := s.wireTx ++ [b], txIdx := 0 })
    else .next { s with wireTx := s.wireTx ++ [b], txIdx := s.txIdx + 1 }

/-! ## Free-running counters (10_state.md R48, R49) -/

/-- POLL_START ran in the cycle that takes `pre` to `post`: TX_QRY was entered (R254, R214). -/
def pollStarted (pre post : State) : Bool := pre.seqState ≠ .txQry ∧ post.seqState = .txQry

/-- One tick: NOW advances, and REF_CNT advances below K_REFRESH unless this cycle's POLL_START cleared it (44_sequencer.md
R254). -/
def tickCounters (pre post : State) : State :=
  { post with
    now := post.now + 1
    refCnt := if pre.refCnt.toNat < Config.kRefresh ∧ ¬ pollStarted pre post then pre.refCnt + 1 else post.refCnt }

/-! ## The environment's samples (log 1) -/

/-- The input ports of the coming cycle: the first listed sample, or the environment's free value. -/
def State.ports (s : State) : Inputs :=
  match s.inputs with
  | p :: _ => p
  | [] => Config.environment s.cycle

/-- The sample is used up and the cycle counted. -/
def State.nextSample (s : State) : State := { s with inputs := s.inputs.tail, cycle := s.cycle + 1 }

/-- The next cycle's sample, with the transaction `w` on its host bus ports and `rst` low; the other ports keep what is
listed for that cycle, or are quiet (log 2). -/
def State.presentTxn (s : State) (w : Txn) : State :=
  { s with inputs := (s.inputs.headD Inputs.quiet).withTxn w :: s.inputs.tail }

end Sys2Proof.Machine
end

