-- ==== Sys2Proof/Machine/CommandWindow.lean ====
section
/-! DEFINITION. Meanings of the host bus transactions of the CMDBUF window (45_host_bus.md R291, R283). Every access drives hb_rdata with
the view as it stands before the cycle's writes (R270); a write the block ignores does nothing else. The address bits a
row leaves open, and the data of a read or of an ignored write, select nothing (30_encoding.md R117). -/

namespace Sys2Proof.Machine

/-- RD_CMDBUF0 (R291). -/
def execRdCmdbuf0 (_lane : BitVec 2) (_data : Word) (s : State) : Host.Outcome State Fault Refusal :=
  busAccess (cmdWindow s 0) s

/-- WR_CMDBUF0 (R283): ignored. -/
def execWrCmdbuf0 (_lane : BitVec 2) (_data : Word) (s : State) : Host.Outcome State Fault Refusal :=
  busAccess (cmdWindow s 0) s

/-- RD_CMDBUF1 (R291). -/
def execRdCmdbuf1 (_lane : BitVec 2) (_data : Word) (s : State) : Host.Outcome State Fault Refusal :=
  busAccess (cmdWindow s 1) s

/-- WR_CMDBUF1 (R283): ignored. -/
def execWrCmdbuf1 (_lane : BitVec 2) (_data : Word) (s : State) : Host.Outcome State Fault Refusal :=
  busAccess (cmdWindow s 1) s

/-- RD_CMDBUF2 (R291). -/
def execRdCmdbuf2 (_lane : BitVec 2) (_data : Word) (s : State) : Host.Outcome State Fault Refusal :=
  busAccess (cmdWindow s 2) s

/-- WR_CMDBUF2 (R283): ignored. -/
def execWrCmdbuf2 (_lane : BitVec 2) (_data : Word) (s : State) : Host.Outcome State Fault Refusal :=
  busAccess (cmdWindow s 2) s

/-- RD_CMDBUF3 (R291). -/
def execRdCmdbuf3 (_lane : BitVec 2) (_data : Word) (s : State) : Host.Outcome State Fault Refusal :=
  busAccess (cmdWindow s 3) s

/-- WR_CMDBUF3 (R283): ignored. -/
def execWrCmdbuf3 (_lane : BitVec 2) (_data : Word) (s : State) : Host.Outcome State Fault Refusal :=
  busAccess (cmdWindow s 3) s

/-- RD_CMDBUF4 (R291). -/
def execRdCmdbuf4 (_lane : BitVec 2) (_data : Word) (s : State) : Host.Outcome State Fault Refusal :=
  busAccess (cmdWindow s 4) s

/-- WR_CMDBUF4 (R283): ignored. -/
def execWrCmdbuf4 (_lane : BitVec 2) (_data : Word) (s : State) : Host.Outcome State Fault Refusal :=
  busAccess (cmdWindow s 4) s

/-- RD_CMDBUF5 (R291). -/
def execRdCmdbuf5 (_lane : BitVec 2) (_data : Word) (s : State) : Host.Outcome State Fault Refusal :=
  busAccess (cmdWindow s 5) s

/-- WR_CMDBUF5 (R283): ignored. -/
def execWrCmdbuf5 (_lane : BitVec 2) (_data : Word) (s : State) : Host.Outcome State Fault Refusal :=
  busAccess (cmdWindow s 5) s

/-- RD_CMDBUF6 (R291). -/
def execRdCmdbuf6 (_lane : BitVec 2) (_data : Word) (s : State) : Host.Outcome State Fault Refusal :=
  busAccess (cmdWindow s 6) s

/-- WR_CMDBUF6 (R283): ignored. -/
def execWrCmdbuf6 (_lane : BitVec 2) (_data : Word) (s : State) : Host.Outcome State Fault Refusal :=
  busAccess (cmdWindow s 6) s

/-- RD_CMDBUF7 (R291). -/
def execRdCmdbuf7 (_lane : BitVec 2) (_data : Word) (s : State) : Host.Outcome State Fault Refusal :=
  busAccess (cmdWindow s 7) s

/-- WR_CMDBUF7 (R283): ignored. -/
def execWrCmdbuf7 (_lane : BitVec 2) (_data : Word) (s : State) : Host.Outcome State Fault Refusal :=
  busAccess (cmdWindow s 7) s

/-- RD_CMDBUF8 (R291). -/
def execRdCmdbuf8 (_lane : BitVec 2) (_data : Word) (s : State) : Host.Outcome State Fault Refusal :=
  busAccess (cmdWindow s 8) s

/-- WR_CMDBUF8 (R283): ignored. -/
def execWrCmdbuf8 (_lane : BitVec 2) (_data : Word) (s : State) : Host.Outcome State Fault Refusal :=
  busAccess (cmdWindow s 8) s

end Sys2Proof.Machine
end

