-- ==== Sys2Proof/Machine/Control.lean ====
section
/-! DEFINITION. Meanings of the CTRL transactions (45_host_bus.md R272, 44_sequencer.md R243 to R248). Reading CTRL
returns 0, so hb_rdata is 0 in each of these cycles (R270). The operands are address bits [1:0] and the data bits the
row leaves open; none selects anything (30_encoding.md R117). -/

namespace Sys2Proof.Machine

/-- WR_CTRL_NOP (R248). -/
def execWrCtrlNop (_lane : BitVec 2) (_rest : BitVec 30) (s : State) : Host.Outcome State Fault Refusal :=
  busAccess 0 s

/-- WR_CTRL_APPLY (R243, R246). -/
def execWrCtrlApply (_lane : BitVec 2) (_rest : BitVec 30) (s : State) : Host.Outcome State Fault Refusal :=
  busAccess 0 (acceptInIdle State.applyAccept s)

/-- WR_CTRL_REFRESH (R244, R246). -/
def execWrCtrlRefresh (_lane : BitVec 2) (_rest : BitVec 30) (s : State) : Host.Outcome State Fault Refusal :=
  busAccess 0 (acceptInIdle State.refreshAccept s)

/-- WR_CTRL_BADOP (R247, 30_encoding.md R120). -/
def execWrCtrlBadop (_lane : BitVec 2) (_rest : BitVec 30) (s : State) : Host.Outcome State Fault Refusal :=
  busAccess 0 (s.raise .badop)

/-- RD_CTRL (R272). -/
def execRdCtrl (_lane : BitVec 2) (_data : Word) (s : State) : Host.Outcome State Fault Refusal := busAccess 0 s

end Sys2Proof.Machine
end

