-- ==== Sys2Proof/Machine/ReceiveWindow.lean ====
section
/-! DEFINITION. Meanings of the host bus transactions of the RXBUF window (45_host_bus.md R293, R283). Every access drives hb_rdata with
the view as it stands before the cycle's writes (R270); a write the block ignores does nothing else. The address bits a
row leaves open, and the data of a read or of an ignored write, select nothing (30_encoding.md R117). -/

namespace Sys2Proof.Machine

/-- RD_RXBUF0 (R293). -/
def execRdRxbuf0 (_lane : BitVec 2) (_data : Word) (s : State) : Host.Outcome State Fault Refusal :=
  busAccess (rxWindow s 0) s

/-- WR_RXBUF0 (R283): ignored. -/
def execWrRxbuf0 (_lane : BitVec 2) (_data : Word) (s : State) : Host.Outcome State Fault Refusal :=
  busAccess (rxWindow s 0) s

/-- RD_RXBUF1 (R293). -/
def execRdRxbuf1 (_lane : BitVec 2) (_data : Word) (s : State) : Host.Outcome State Fault Refusal :=
  busAccess (rxWindow s 1) s

/-- WR_RXBUF1 (R283): ignored. -/
def execWrRxbuf1 (_lane : BitVec 2) (_data : Word) (s : State) : Host.Outcome State Fault Refusal :=
  busAccess (rxWindow s 1) s

/-- RD_RXBUF2 (R293). -/
def execRdRxbuf2 (_lane : BitVec 2) (_data : Word) (s : State) : Host.Outcome State Fault Refusal :=
  busAccess (rxWindow s 2) s

/-- WR_RXBUF2 (R283): ignored. -/
def execWrRxbuf2 (_lane : BitVec 2) (_data : Word) (s : State) : Host.Outcome State Fault Refusal :=
  busAccess (rxWindow s 2) s

/-- RD_RXBUF3 (R293). -/
def execRdRxbuf3 (_lane : BitVec 2) (_data : Word) (s : State) : Host.Outcome State Fault Refusal :=
  busAccess (rxWindow s 3) s

/-- WR_RXBUF3 (R283): ignored. -/
def execWrRxbuf3 (_lane : BitVec 2) (_data : Word) (s : State) : Host.Outcome State Fault Refusal :=
  busAccess (rxWindow s 3) s

/-- RD_RXBUF4 (R293). -/
def execRdRxbuf4 (_lane : BitVec 2) (_data : Word) (s : State) : Host.Outcome State Fault Refusal :=
  busAccess (rxWindow s 4) s

/-- WR_RXBUF4 (R283): ignored. -/
def execWrRxbuf4 (_lane : BitVec 2) (_data : Word) (s : State) : Host.Outcome State Fault Refusal :=
  busAccess (rxWindow s 4) s

/-- RD_RXBUF5 (R293). -/
def execRdRxbuf5 (_lane : BitVec 2) (_data : Word) (s : State) : Host.Outcome State Fault Refusal :=
  busAccess (rxWindow s 5) s

/-- WR_RXBUF5 (R283): ignored. -/
def execWrRxbuf5 (_lane : BitVec 2) (_data : Word) (s : State) : Host.Outcome State Fault Refusal :=
  busAccess (rxWindow s 5) s

/-- RD_RXBUF6 (R293). -/
def execRdRxbuf6 (_lane : BitVec 2) (_data : Word) (s : State) : Host.Outcome State Fault Refusal :=
  busAccess (rxWindow s 6) s

/-- WR_RXBUF6 (R283): ignored. -/
def execWrRxbuf6 (_lane : BitVec 2) (_data : Word) (s : State) : Host.Outcome State Fault Refusal :=
  busAccess (rxWindow s 6) s

/-- RD_RXBUF7 (R293). -/
def execRdRxbuf7 (_lane : BitVec 2) (_data : Word) (s : State) : Host.Outcome State Fault Refusal :=
  busAccess (rxWindow s 7) s

/-- WR_RXBUF7 (R283): ignored. -/
def execWrRxbuf7 (_lane : BitVec 2) (_data : Word) (s : State) : Host.Outcome State Fault Refusal :=
  busAccess (rxWindow s 7) s

/-- RD_RXBUF8 (R293). -/
def execRdRxbuf8 (_lane : BitVec 2) (_data : Word) (s : State) : Host.Outcome State Fault Refusal :=
  busAccess (rxWindow s 8) s

/-- WR_RXBUF8 (R283): ignored. -/
def execWrRxbuf8 (_lane : BitVec 2) (_data : Word) (s : State) : Host.Outcome State Fault Refusal :=
  busAccess (rxWindow s 8) s

/-- RD_RXBUF9 (R293). -/
def execRdRxbuf9 (_lane : BitVec 2) (_data : Word) (s : State) : Host.Outcome State Fault Refusal :=
  busAccess (rxWindow s 9) s

/-- WR_RXBUF9 (R283): ignored. -/
def execWrRxbuf9 (_lane : BitVec 2) (_data : Word) (s : State) : Host.Outcome State Fault Refusal :=
  busAccess (rxWindow s 9) s

/-- RD_RXBUF10 (R293). -/
def execRdRxbuf10 (_lane : BitVec 2) (_data : Word) (s : State) : Host.Outcome State Fault Refusal :=
  busAccess (rxWindow s 10) s

/-- WR_RXBUF10 (R283): ignored. -/
def execWrRxbuf10 (_lane : BitVec 2) (_data : Word) (s : State) : Host.Outcome State Fault Refusal :=
  busAccess (rxWindow s 10) s

/-- RD_RXBUF11 (R293). -/
def execRdRxbuf11 (_lane : BitVec 2) (_data : Word) (s : State) : Host.Outcome State Fault Refusal :=
  busAccess (rxWindow s 11) s

/-- WR_RXBUF11 (R283): ignored. -/
def execWrRxbuf11 (_lane : BitVec 2) (_data : Word) (s : State) : Host.Outcome State Fault Refusal :=
  busAccess (rxWindow s 11) s

/-- RD_RXBUF12 (R293). -/
def execRdRxbuf12 (_lane : BitVec 2) (_data : Word) (s : State) : Host.Outcome State Fault Refusal :=
  busAccess (rxWindow s 12) s

/-- WR_RXBUF12 (R283): ignored. -/
def execWrRxbuf12 (_lane : BitVec 2) (_data : Word) (s : State) : Host.Outcome State Fault Refusal :=
  busAccess (rxWindow s 12) s

/-- RD_RXBUF13 (R293). -/
def execRdRxbuf13 (_lane : BitVec 2) (_data : Word) (s : State) : Host.Outcome State Fault Refusal :=
  busAccess (rxWindow s 13) s

/-- WR_RXBUF13 (R283): ignored. -/
def execWrRxbuf13 (_lane : BitVec 2) (_data : Word) (s : State) : Host.Outcome State Fault Refusal :=
  busAccess (rxWindow s 13) s

/-- RD_RXBUF14 (R293). -/
def execRdRxbuf14 (_lane : BitVec 2) (_data : Word) (s : State) : Host.Outcome State Fault Refusal :=
  busAccess (rxWindow s 14) s

/-- WR_RXBUF14 (R283): ignored. -/
def execWrRxbuf14 (_lane : BitVec 2) (_data : Word) (s : State) : Host.Outcome State Fault Refusal :=
  busAccess (rxWindow s 14) s

/-- RD_RXBUF15 (R293). -/
def execRdRxbuf15 (_lane : BitVec 2) (_data : Word) (s : State) : Host.Outcome State Fault Refusal :=
  busAccess (rxWindow s 15) s

/-- WR_RXBUF15 (R283): ignored. -/
def execWrRxbuf15 (_lane : BitVec 2) (_data : Word) (s : State) : Host.Outcome State Fault Refusal :=
  busAccess (rxWindow s 15) s

/-- RD_RXBUF16 (R293). -/
def execRdRxbuf16 (_lane : BitVec 2) (_data : Word) (s : State) : Host.Outcome State Fault Refusal :=
  busAccess (rxWindow s 16) s

/-- WR_RXBUF16 (R283): ignored. -/
def execWrRxbuf16 (_lane : BitVec 2) (_data : Word) (s : State) : Host.Outcome State Fault Refusal :=
  busAccess (rxWindow s 16) s

/-- RD_RXBUF17 (R293). -/
def execRdRxbuf17 (_lane : BitVec 2) (_data : Word) (s : State) : Host.Outcome State Fault Refusal :=
  busAccess (rxWindow s 17) s

/-- WR_RXBUF17 (R283): ignored. -/
def execWrRxbuf17 (_lane : BitVec 2) (_data : Word) (s : State) : Host.Outcome State Fault Refusal :=
  busAccess (rxWindow s 17) s

/-- RD_RXBUF18 (R293). -/
def execRdRxbuf18 (_lane : BitVec 2) (_data : Word) (s : State) : Host.Outcome State Fault Refusal :=
  busAccess (rxWindow s 18) s

/-- WR_RXBUF18 (R283): ignored. -/
def execWrRxbuf18 (_lane : BitVec 2) (_data : Word) (s : State) : Host.Outcome State Fault Refusal :=
  busAccess (rxWindow s 18) s

/-- RD_RXBUF19 (R293). -/
def execRdRxbuf19 (_lane : BitVec 2) (_data : Word) (s : State) : Host.Outcome State Fault Refusal :=
  busAccess (rxWindow s 19) s

/-- WR_RXBUF19 (R283): ignored. -/
def execWrRxbuf19 (_lane : BitVec 2) (_data : Word) (s : State) : Host.Outcome State Fault Refusal :=
  busAccess (rxWindow s 19) s

end Sys2Proof.Machine
end

