-- ==== Sys2Proof/Machine/Registers.lean ====
section
/-! DEFINITION. Meanings of the host bus transactions of the registers REQ to TMR1 (45_host_bus.md R273 to R285). Every access drives hb_rdata with
the view as it stands before the cycle's writes (R270); a write the block ignores does nothing else. The address bits a
row leaves open, and the data of a read or of an ignored write, select nothing (30_encoding.md R117). -/

namespace Sys2Proof.Machine

/-- RD_REQ (R273). -/
def execRdReq (_lane : BitVec 2) (_data : Word) (s : State) : Host.Outcome State Fault Refusal :=
  busAccess s.req s

/-- WR_REQ (R274): the reserved bits are dropped. -/
def execWrReq (_lane : BitVec 2) (data : Word) (s : State) : Host.Outcome State Fault Refusal :=
  busAccess s.req { s with req := data &&& reqMask }

/-- RD_STATUS (R275). -/
def execRdStatus (_lane : BitVec 2) (_data : Word) (s : State) : Host.Outcome State Fault Refusal :=
  busAccess (statusView s) s

/-- WR_STATUS (R275): ignored. -/
def execWrStatus (_lane : BitVec 2) (_data : Word) (s : State) : Host.Outcome State Fault Refusal :=
  busAccess (statusView s) s

/-- RD_EVT (R277). -/
def execRdEvt (_lane : BitVec 2) (_data : Word) (s : State) : Host.Outcome State Fault Refusal :=
  busAccess (evtView s) s

/-- WR_EVT (R277): write 1 to clear; an event raised in the same cycle is set after it. -/
def execWrEvt (_lane : BitVec 2) (data : Word) (s : State) : Host.Outcome State Fault Refusal :=
  busAccess (evtView s) (s.clearEvents (data.extractLsb' 0 6))

/-- RD_IEN (R276). -/
def execRdIen (_lane : BitVec 2) (_data : Word) (s : State) : Host.Outcome State Fault Refusal :=
  busAccess (ienView s) s

/-- WR_IEN (R276). -/
def execWrIen (_lane : BitVec 2) (data : Word) (s : State) : Host.Outcome State Fault Refusal :=
  busAccess (ienView s) { s with ien := data.extractLsb' 0 6 }

/-- RD_DEV0 (R278). -/
def execRdDev0 (_lane : BitVec 2) (_data : Word) (s : State) : Host.Outcome State Fault Refusal :=
  busAccess (dev0View s) s

/-- WR_DEV0 (R283): ignored. -/
def execWrDev0 (_lane : BitVec 2) (_data : Word) (s : State) : Host.Outcome State Fault Refusal :=
  busAccess (dev0View s) s

/-- RD_DEV1 (R279). -/
def execRdDev1 (_lane : BitVec 2) (_data : Word) (s : State) : Host.Outcome State Fault Refusal :=
  busAccess (dev1View s) s

/-- WR_DEV1 (R283): ignored. -/
def execWrDev1 (_lane : BitVec 2) (_data : Word) (s : State) : Host.Outcome State Fault Refusal :=
  busAccess (dev1View s) s

/-- RD_NOW (R280). -/
def execRdNow (_lane : BitVec 2) (_data : Word) (s : State) : Host.Outcome State Fault Refusal :=
  busAccess s.now s

/-- WR_NOW (R280): ignored. -/
def execWrNow (_lane : BitVec 2) (_data : Word) (s : State) : Host.Outcome State Fault Refusal :=
  busAccess s.now s

/-- RD_T_LAST_POLL (R281). -/
def execRdTLastPoll (_lane : BitVec 2) (_data : Word) (s : State) : Host.Outcome State Fault Refusal :=
  busAccess s.tLastPoll s

/-- WR_T_LAST_POLL (R281): ignored. -/
def execWrTLastPoll (_lane : BitVec 2) (_data : Word) (s : State) : Host.Outcome State Fault Refusal :=
  busAccess s.tLastPoll s

/-- RD_T_LAST_CMD (R282). -/
def execRdTLastCmd (_lane : BitVec 2) (_data : Word) (s : State) : Host.Outcome State Fault Refusal :=
  busAccess s.tLastCmd s

/-- WR_T_LAST_CMD (R282): ignored. -/
def execWrTLastCmd (_lane : BitVec 2) (_data : Word) (s : State) : Host.Outcome State Fault Refusal :=
  busAccess s.tLastCmd s

/-- RD_TMR0 (R284). -/
def execRdTmr0 (_lane : BitVec 2) (_data : Word) (s : State) : Host.Outcome State Fault Refusal :=
  busAccess (tmr0View s) s

/-- WR_TMR0 (R284): ignored. -/
def execWrTmr0 (_lane : BitVec 2) (_data : Word) (s : State) : Host.Outcome State Fault Refusal :=
  busAccess (tmr0View s) s

/-- RD_TMR1 (R285). -/
def execRdTmr1 (_lane : BitVec 2) (_data : Word) (s : State) : Host.Outcome State Fault Refusal :=
  busAccess (tmr1View s) s

/-- WR_TMR1 (R285): ignored. -/
def execWrTmr1 (_lane : BitVec 2) (_data : Word) (s : State) : Host.Outcome State Fault Refusal :=
  busAccess (tmr1View s) s

end Sys2Proof.Machine
end

