-- ==== Sys2Proof/Machine/Sequencer.lean ====
section
/-! DEFINITION. Meanings of the two exchanges the block starts by itself (44_sequencer.md R241, R242). -/

namespace Sys2Proof.Machine

/-- STARTUP (R241): reset enters TX_QRY with ORIGIN STARTUP, every state element at its reset value (R66). -/
def execStartup (s : State) : Host.Outcome State Fault Refusal := .next s.resetBlock

/-- PERIODIC (R242): in IDLE with a refresh due, PERIODIC_START (R255); otherwise nothing (log 7). -/
def execPeriodic (s : State) : Host.Outcome State Fault Refusal :=
  if s.seqState = .idle ∧ s.refDue then .next s.periodicStart else .next s

end Sys2Proof.Machine
end

