-- ==== Sys2Proof/Machine/Transport.lean ====
section
/-! DEFINITION. Meanings of the transport operations (43_frame_sync.md). Each is issued by the cycle in which its port
trigger holds (Machine/Cycle.lean) and checks its own STATE; in another STATE it does nothing (log 7). -/

namespace Sys2Proof.Machine

/-- TX_CMD_BYTE (R211): after byte 34 the settle delay starts with SET_CNT = 0. -/
def execTxCmdByte (s : State) : Host.Outcome State Fault Refusal :=
  if s.seqState = .txCmd then sendByte Config.kCmdLen (fun t => { t with setCnt := 0, seqState := .settle }) s
  else .next s

/-- TX_QRY_BYTE (R213): after byte 7 the read window opens with TMO_CNT = 0. -/
def execTxQryByte (s : State) : Host.Outcome State Fault Refusal :=
  if s.seqState = .txQry then sendByte Config.kQryLen (fun t => { t with tmoCnt := 0, seqState := .hunt }) s
  else .next s

/-- POLL_START (R214), a part of every entry into TX_QRY; it acts whenever it is issued (log 7). -/
def execPollStart (s : State) : Host.Outcome State Fault Refusal := .next s.pollStart

/-- HUNT_BYTE (R216): the start marker is stored and synchronises, any other byte is discarded. -/
def execHuntByte (rxData : Byte) (s : State) : Host.Outcome State Fault Refusal :=
  if s.seqState = .hunt ∧ rxData = Config.kStart then
    .next { s with rxbuf := s.rxbuf.setIfInBounds 0 Config.kStart, rxCnt := 1, seqState := .acc }
  else .next s

/-- ACC_BYTE (R217): every byte is stored in order. -/
def execAccByte (rxData : Byte) (s : State) : Host.Outcome State Fault Refusal :=
  if s.seqState = .acc then storeByte rxData s else .next s

/-- CAPACITY_STOP (R218): the read ends when RX_CNT is K_RX_CAP. The test of R220 is made in HUNT and ACC alike
(log 23). -/
def execCapacityStop (s : State) : Host.Outcome State Fault Refusal :=
  if (s.seqState = .hunt ∨ s.seqState = .acc) ∧ s.rxCnt.toNat = Config.kRxCap then .next { s with seqState := .decode }
  else .next s

/-- TIMEOUT_TICK (R219): TMO_CNT counts the tick, and at K_TMO the read ends with TIMEOUT. -/
def execTimeoutTick (s : State) : Host.Outcome State Fault Refusal :=
  if s.seqState = .hunt ∨ s.seqState = .acc then
    if Config.kTmo ≤ (s.tmoCnt + 1).toNat then
      .next { s.raise .timeout with tmoCnt := s.tmoCnt + 1, seqState := .decode }
    else .next { s with tmoCnt := s.tmoCnt + 1 }
  else .next s

/-- SETTLE_TICK (R221): SET_CNT counts the tick, and at K_SETTLE the post-command poll starts. -/
def execSettleTick (s : State) : Host.Outcome State Fault Refusal :=
  if s.seqState = .settle then
    if Config.kSettle ≤ (s.setCnt + 1).toNat then .next ({ s with setCnt := s.setCnt + 1 }).enterPoll
    else .next { s with setCnt := s.setCnt + 1 }
  else .next s

end Sys2Proof.Machine
end

