-- ==== Sys2Proof/Machine/Unmapped.lean ====
section
/-! DEFINITION. Meanings of the host bus transactions of the unmapped offsets (45_host_bus.md R295). Every access drives hb_rdata with
the view as it stands before the cycle's writes (R270); a write the block ignores does nothing else. The address bits a
row leaves open, and the data of a read or of an ignored write, select nothing (30_encoding.md R117). -/

namespace Sys2Proof.Machine

/-- RD_UNMAPPED_0x30_0x3C (R295). -/
def execRdUnmapped30To3C (_low : BitVec 4) (_data : Word) (s : State) : Host.Outcome State Fault Refusal :=
  busAccess 0 s

/-- WR_UNMAPPED_0x30_0x3C (R295): ignored. -/
def execWrUnmapped30To3C (_low : BitVec 4) (_data : Word) (s : State) : Host.Outcome State Fault Refusal :=
  busAccess 0 s

/-- RD_UNMAPPED_0x64 (R295). -/
def execRdUnmapped64 (_lane : BitVec 2) (_data : Word) (s : State) : Host.Outcome State Fault Refusal :=
  busAccess 0 s

/-- WR_UNMAPPED_0x64 (R295): ignored. -/
def execWrUnmapped64 (_lane : BitVec 2) (_data : Word) (s : State) : Host.Outcome State Fault Refusal :=
  busAccess 0 s

/-- RD_UNMAPPED_0x68 (R295). -/
def execRdUnmapped68 (_lane : BitVec 2) (_data : Word) (s : State) : Host.Outcome State Fault Refusal :=
  busAccess 0 s

/-- WR_UNMAPPED_0x68 (R295): ignored. -/
def execWrUnmapped68 (_lane : BitVec 2) (_data : Word) (s : State) : Host.Outcome State Fault Refusal :=
  busAccess 0 s

/-- RD_UNMAPPED_0x6C (R295). -/
def execRdUnmapped6C (_lane : BitVec 2) (_data : Word) (s : State) : Host.Outcome State Fault Refusal :=
  busAccess 0 s

/-- WR_UNMAPPED_0x6C (R295): ignored. -/
def execWrUnmapped6C (_lane : BitVec 2) (_data : Word) (s : State) : Host.Outcome State Fault Refusal :=
  busAccess 0 s

/-- RD_UNMAPPED_0x70_0x7C (R295). -/
def execRdUnmapped70To7C (_low : BitVec 4) (_data : Word) (s : State) : Host.Outcome State Fault Refusal :=
  busAccess 0 s

/-- WR_UNMAPPED_0x70_0x7C (R295): ignored. -/
def execWrUnmapped70To7C (_low : BitVec 4) (_data : Word) (s : State) : Host.Outcome State Fault Refusal :=
  busAccess 0 s

/-- RD_UNMAPPED_0xD0_0xDC (R295). -/
def execRdUnmappedD0ToDC (_low : BitVec 4) (_data : Word) (s : State) : Host.Outcome State Fault Refusal :=
  busAccess 0 s

/-- WR_UNMAPPED_0xD0_0xDC (R295): ignored. -/
def execWrUnmappedD0ToDC (_low : BitVec 4) (_data : Word) (s : State) : Host.Outcome State Fault Refusal :=
  busAccess 0 s

/-- RD_UNMAPPED_0xE0_0xFC (R295). -/
def execRdUnmappedE0ToFC (_low : BitVec 5) (_data : Word) (s : State) : Host.Outcome State Fault Refusal :=
  busAccess 0 s

/-- WR_UNMAPPED_0xE0_0xFC (R295): ignored. -/
def execWrUnmappedE0ToFC (_low : BitVec 5) (_data : Word) (s : State) : Host.Outcome State Fault Refusal :=
  busAccess 0 s

end Sys2Proof.Machine
end

