-- ==== Sys2Proof/Machine/Dispatch.lean ====
section
/-! DEFINITION. The meaning of every operation: one arm per constructor of `Instr`. -/

namespace Sys2Proof.Machine

def exec (i : Instr) (s : State) : Host.Outcome State Fault Refusal :=
  match i with
  -- CTRL, offset 0x00
  | .wrCtrlNop lane rest => Sys2Proof.Machine.execWrCtrlNop lane rest s
  | .wrCtrlApply lane rest => Sys2Proof.Machine.execWrCtrlApply lane rest s
  | .wrCtrlRefresh lane rest => Sys2Proof.Machine.execWrCtrlRefresh lane rest s
  | .wrCtrlBadop lane rest => Sys2Proof.Machine.execWrCtrlBadop lane rest s
  | .rdCtrl lane data => Sys2Proof.Machine.execRdCtrl lane data s
  -- registers, offsets 0x04 to 0x2C
  | .rdReq lane data => Sys2Proof.Machine.execRdReq lane data s
  | .wrReq lane data => Sys2Proof.Machine.execWrReq lane data s
  | .rdStatus lane data => Sys2Proof.Machine.execRdStatus lane data s
  | .wrStatus lane data => Sys2Proof.Machine.execWrStatus lane data s
  | .rdEvt lane data => Sys2Proof.Machine.execRdEvt lane data s
  | .wrEvt lane data => Sys2Proof.Machine.execWrEvt lane data s
  | .rdIen lane data => Sys2Proof.Machine.execRdIen lane data s
  | .wrIen lane data => Sys2Proof.Machine.execWrIen lane data s
  | .rdDev0 lane data => Sys2Proof.Machine.execRdDev0 lane data s
  | .wrDev0 lane data => Sys2Proof.Machine.execWrDev0 lane data s
  | .rdDev1 lane data => Sys2Proof.Machine.execRdDev1 lane data s
  | .wrDev1 lane data => Sys2Proof.Machine.execWrDev1 lane data s
  | .rdNow lane data => Sys2Proof.Machine.execRdNow lane data s
  | .wrNow lane data => Sys2Proof.Machine.execWrNow lane data s
  | .rdTLastPoll lane data => Sys2Proof.Machine.execRdTLastPoll lane data s
  | .wrTLastPoll lane data => Sys2Proof.Machine.execWrTLastPoll lane data s
  | .rdTLastCmd lane data => Sys2Proof.Machine.execRdTLastCmd lane data s
  | .wrTLastCmd lane data => Sys2Proof.Machine.execWrTLastCmd lane data s
  | .rdTmr0 lane data => Sys2Proof.Machine.execRdTmr0 lane data s
  | .wrTmr0 lane data => Sys2Proof.Machine.execWrTmr0 lane data s
  | .rdTmr1 lane data => Sys2Proof.Machine.execRdTmr1 lane data s
  | .wrTmr1 lane data => Sys2Proof.Machine.execWrTmr1 lane data s
  -- CMDBUF window, offsets 0x40 to 0x60
  | .rdCmdbuf0 lane data => Sys2Proof.Machine.execRdCmdbuf0 lane data s
  | .wrCmdbuf0 lane data => Sys2Proof.Machine.execWrCmdbuf0 lane data s
  | .rdCmdbuf1 lane data => Sys2Proof.Machine.execRdCmdbuf1 lane data s
  | .wrCmdbuf1 lane data => Sys2Proof.Machine.execWrCmdbuf1 lane data s
  | .rdCmdbuf2 lane data => Sys2Proof.Machine.execRdCmdbuf2 lane data s
  | .wrCmdbuf2 lane data => Sys2Proof.Machine.execWrCmdbuf2 lane data s
  | .rdCmdbuf3 lane data => Sys2Proof.Machine.execRdCmdbuf3 lane data s
  | .wrCmdbuf3 lane data => Sys2Proof.Machine.execWrCmdbuf3 lane data s
  | .rdCmdbuf4 lane data => Sys2Proof.Machine.execRdCmdbuf4 lane data s
  | .wrCmdbuf4 lane data => Sys2Proof.Machine.execWrCmdbuf4 lane data s
  | .rdCmdbuf5 lane data => Sys2Proof.Machine.execRdCmdbuf5 lane data s
  | .wrCmdbuf5 lane data => Sys2Proof.Machine.execWrCmdbuf5 lane data s
  | .rdCmdbuf6 lane data => Sys2Proof.Machine.execRdCmdbuf6 lane data s
  | .wrCmdbuf6 lane data => Sys2Proof.Machine.execWrCmdbuf6 lane data s
  | .rdCmdbuf7 lane data => Sys2Proof.Machine.execRdCmdbuf7 lane data s
  | .wrCmdbuf7 lane data => Sys2Proof.Machine.execWrCmdbuf7 lane data s
  | .rdCmdbuf8 lane data => Sys2Proof.Machine.execRdCmdbuf8 lane data s
  | .wrCmdbuf8 lane data => Sys2Proof.Machine.execWrCmdbuf8 lane data s
  -- RXBUF window, offsets 0x80 to 0xCC
  | .rdRxbuf0 lane data => Sys2Proof.Machine.execRdRxbuf0 lane data s
  | .wrRxbuf0 lane data => Sys2Proof.Machine.execWrRxbuf0 lane data s
  | .rdRxbuf1 lane data => Sys2Proof.Machine.execRdRxbuf1 lane data s
  | .wrRxbuf1 lane data => Sys2Proof.Machine.execWrRxbuf1 lane data s
  | .rdRxbuf2 lane data => Sys2Proof.Machine.execRdRxbuf2 lane data s
  | .wrRxbuf2 lane data => Sys2Proof.Machine.execWrRxbuf2 lane data s
  | .rdRxbuf3 lane data => Sys2Proof.Machine.execRdRxbuf3 lane data s
  | .wrRxbuf3 lane data => Sys2Proof.Machine.execWrRxbuf3 lane data s
  | .rdRxbuf4 lane data => Sys2Proof.Machine.execRdRxbuf4 lane data s
  | .wrRxbuf4 lane data => Sys2Proof.Machine.execWrRxbuf4 lane data s
  | .rdRxbuf5 lane data => Sys2Proof.Machine.execRdRxbuf5 lane data s
  | .wrRxbuf5 lane data => Sys2Proof.Machine.execWrRxbuf5 lane data s
  | .rdRxbuf6 lane data => Sys2Proof.Machine.execRdRxbuf6 lane data s
  | .wrRxbuf6 lane data => Sys2Proof.Machine.execWrRxbuf6 lane data s
  | .rdRxbuf7 lane data => Sys2Proof.Machine.execRdRxbuf7 lane data s
  | .wrRxbuf7 lane data => Sys2Proof.Machine.execWrRxbuf7 lane data s
  | .rdRxbuf8 lane data => Sys2Proof.Machine.execRdRxbuf8 lane data s
  | .wrRxbuf8 lane data => Sys2Proof.Machine.execWrRxbuf8 lane data s
  | .rdRxbuf9 lane data => Sys2Proof.Machine.execRdRxbuf9 lane data s
  | .wrRxbuf9 lane data => Sys2Proof.Machine.execWrRxbuf9 lane data s
  | .rdRxbuf10 lane data => Sys2Proof.Machine.execRdRxbuf10 lane data s
  | .wrRxbuf10 lane data => Sys2Proof.Machine.execWrRxbuf10 lane data s
  | .rdRxbuf11 lane data => Sys2Proof.Machine.execRdRxbuf11 lane data s
  | .wrRxbuf11 lane data => Sys2Proof.Machine.execWrRxbuf11 lane data s
  | .rdRxbuf12 lane data => Sys2Proof.Machine.execRdRxbuf12 lane data s
  | .wrRxbuf12 lane data => Sys2Proof.Machine.execWrRxbuf12 lane data s
  | .rdRxbuf13 lane data => Sys2Proof.Machine.execRdRxbuf13 lane data s
  | .wrRxbuf13 lane data => Sys2Proof.Machine.execWrRxbuf13 lane data s
  | .rdRxbuf14 lane data => Sys2Proof.Machine.execRdRxbuf14 lane data s
  | .wrRxbuf14 lane data => Sys2Proof.Machine.execWrRxbuf14 lane data s
  | .rdRxbuf15 lane data => Sys2Proof.Machine.execRdRxbuf15 lane data s
  | .wrRxbuf15 lane data => Sys2Proof.Machine.execWrRxbuf15 lane data s
  | .rdRxbuf16 lane data => Sys2Proof.Machine.execRdRxbuf16 lane data s
  | .wrRxbuf16 lane data => Sys2Proof.Machine.execWrRxbuf16 lane data s
  | .rdRxbuf17 lane data => Sys2Proof.Machine.execRdRxbuf17 lane data s
  | .wrRxbuf17 lane data => Sys2Proof.Machine.execWrRxbuf17 lane data s
  | .rdRxbuf18 lane data => Sys2Proof.Machine.execRdRxbuf18 lane data s
  | .wrRxbuf18 lane data => Sys2Proof.Machine.execWrRxbuf18 lane data s
  | .rdRxbuf19 lane data => Sys2Proof.Machine.execRdRxbuf19 lane data s
  | .wrRxbuf19 lane data => Sys2Proof.Machine.execWrRxbuf19 lane data s
  -- unmapped offsets
  | .rdUnmapped30To3C low data => Sys2Proof.Machine.execRdUnmapped30To3C low data s
  | .wrUnmapped30To3C low data => Sys2Proof.Machine.execWrUnmapped30To3C low data s
  | .rdUnmapped64 lane data => Sys2Proof.Machine.execRdUnmapped64 lane data s
  | .wrUnmapped64 lane data => Sys2Proof.Machine.execWrUnmapped64 lane data s
  | .rdUnmapped68 lane data => Sys2Proof.Machine.execRdUnmapped68 lane data s
  | .wrUnmapped68 lane data => Sys2Proof.Machine.execWrUnmapped68 lane data s
  | .rdUnmapped6C lane data => Sys2Proof.Machine.execRdUnmapped6C lane data s
  | .wrUnmapped6C lane data => Sys2Proof.Machine.execWrUnmapped6C lane data s
  | .rdUnmapped70To7C low data => Sys2Proof.Machine.execRdUnmapped70To7C low data s
  | .wrUnmapped70To7C low data => Sys2Proof.Machine.execWrUnmapped70To7C low data s
  | .rdUnmappedD0ToDC low data => Sys2Proof.Machine.execRdUnmappedD0ToDC low data s
  | .wrUnmappedD0ToDC low data => Sys2Proof.Machine.execWrUnmappedD0ToDC low data s
  | .rdUnmappedE0ToFC low data => Sys2Proof.Machine.execRdUnmappedE0ToFC low data s
  | .wrUnmappedE0ToFC low data => Sys2Proof.Machine.execWrUnmappedE0ToFC low data s
  -- operations with no encoding (30_encoding.md R119)
  | .startup => Sys2Proof.Machine.execStartup s
  | .periodic => Sys2Proof.Machine.execPeriodic s
  | .encode => Sys2Proof.Machine.execEncode s
  | .xorfold => Sys2Proof.Machine.execXorfold s
  | .decode => Sys2Proof.Machine.execDecode s
  | .txCmdByte => Sys2Proof.Machine.execTxCmdByte s
  | .txQryByte => Sys2Proof.Machine.execTxQryByte s
  | .pollStart => Sys2Proof.Machine.execPollStart s
  | .huntByte rxData => Sys2Proof.Machine.execHuntByte rxData s
  | .accByte rxData => Sys2Proof.Machine.execAccByte rxData s
  | .capacityStop => Sys2Proof.Machine.execCapacityStop s
  | .timeoutTick => Sys2Proof.Machine.execTimeoutTick s
  | .settleTick => Sys2Proof.Machine.execSettleTick s

end Sys2Proof.Machine
end

