-- ==== Sys2Proof/Machine/Cycle.lean ====
section
/-! DEFINITION. One clock cycle of the block (44_sequencer.md R254), as the operations that run in it: the host bus
transaction on the ports, then the internal operations whose triggers hold, then the free-running counters. Every
trigger is taken from the state at the start of the cycle. The order is chosen so that no operation sees a value an
earlier one of the same cycle wrote where R16 asks for the old one (log 8); Machine/StepRule.lean holds R254's own form,
in which all writes land at once. -/

namespace Sys2Proof.Machine

/-- The internal operations of a cycle, by STATE at its start and the sampled ports (R240). In IDLE, PERIODIC runs after
the host's transaction and finds STATE changed if an operation was accepted, so the host wins (R245). -/
def internalOps (s : State) (p : Inputs) : List Instr :=
  match s.seqState with
  | .idle => [.periodic]
  | .txCmd => if p.txReady then [.txCmdByte] else []
  | .settle => if p.tickMs then [.settleTick] else []
  | .txQry => if p.txReady then [.txQryByte] else []
  | .hunt => (if p.rxValid then [.huntByte p.rxData] else []) ++ (if p.tickMs then [.timeoutTick] else []) ++ [.capacityStop]
  | .acc => (if p.rxValid then [.accByte p.rxData] else []) ++ (if p.tickMs then [.timeoutTick] else []) ++ [.capacityStop]
  | .decode => [.decode]

/-- All operations of a cycle. While rst is 1 only STARTUP runs, and a host write is lost (70_reset_and_hazards.md
R330). -/
def cycleOps (s : State) (p : Inputs) : List Instr :=
  if p.rst then [.startup] else decodeTxn p.txn :: internalOps s p

/-- Operations one after another, up to the first that stops. -/
def runOps : List Instr → State → Host.Outcome State Fault Refusal
  | [], s => .next s
  | i :: is, s =>
    match exec i s with
    | .next t => runOps is t
    | .fault r => .fault r
    | .refused r => .refused r

/-- The output ports of a cycle, from the state at its start; `rdata` is what the bus transaction drove. While rst is 1
the outputs are off and hb_rdata shows the reset state (R330). -/
def cycleOutputs (s : State) (p : Inputs) (rdata : Word) : Outputs :=
  if p.rst then
    { txValid := false, txData := 0, rxReady := false, irq := false
      hbRdata := hostView s.resetBlock (txnIndex p.txn) }
  else { txValid := s.txValid, txData := s.txData, rxReady := s.rxReady, irq := s.irq, hbRdata := rdata }

/-- What the cycle adds after its operations, `t` being the state they leave: the tick of the free-running counters, the
record of the output ports, and the sample used up. -/
def finishCycle (s : State) (p : Inputs) (t : State) : State :=
  let u := if p.tickMs ∧ ¬ p.rst then tickCounters s t else t
  { u.nextSample with out := cycleOutputs s p t.out.hbRdata }

/-- One rising edge of clk with the input ports `p` (R254). -/
def clockEdge (p : Inputs) (s : State) : Host.Outcome State Fault Refusal :=
  match runOps (cycleOps s p) s with
  | .next t => .next (finishCycle s p t)
  | .fault r => .fault r
  | .refused r => .refused r

end Sys2Proof.Machine
end

