-- ==== Sys2Proof/Machine/Step.lean ====
section
/-! DEFINITION. One step of the machine is one clock cycle: the block takes the coming cycle's sample of its input ports
and runs `clockEdge` on it. -/

namespace Sys2Proof.Machine

/-- One clock cycle (44_sequencer.md R254). -/
def step (s : State) : Host.Outcome State Fault Refusal := clockEdge s.ports s

/-- `s` with the transaction of a table word on the host bus in the coming cycle (log 2). -/
def State.withFetchWord (s : State) (nbits w : Nat) : State := s.presentTxn (txnOfTableWord nbits w)

end Sys2Proof.Machine
end

