-- ==== Sys2Proof/Machine/StepRule.lean ====
section
/-! DEFINITION. STEP written as 44_sequencer.md R254 writes it: every register's next value as a function of the state at
the start of the cycle and of the sampled ports, all writes landing at once (00_scope.md R16). `step` does not use it;
it is what statements compare `step` with. -/

namespace Sys2Proof.Machine

/-- `reg = hb_addr[7:2]` (R254). -/
def hostReg (p : Inputs) : Nat := (p.hbAddr.extractLsb' 2 6).toNat

/-- `op`: the OP field of a CTRL write in this cycle, 0 when there is none (R240, R248). -/
def hostOp (p : Inputs) : BitVec 2 := if p.hbWe ∧ hostReg p = 0 then p.hbWdata.extractLsb' 0 2 else 0

/-- `clr`: the EVT bits the host clears in this cycle (R254, 45_host_bus.md R277). -/
def hostClears (p : Inputs) : BitVec 6 := if p.hbWe ∧ hostReg p = 3 then p.hbWdata.extractLsb' 0 6 else 0

/-- STATE is HUNT or ACC. -/
def State.reading (s : State) : Bool := s.seqState = .hunt ∨ s.seqState = .acc

/-- An APPLY is accepted (R243). -/
def applyNow (s : State) (p : Inputs) : Bool := s.seqState = .idle ∧ hostOp p = 1

/-- A REFRESH is accepted (R244). -/
def refreshNow (s : State) (p : Inputs) : Bool := s.seqState = .idle ∧ hostOp p = 2

/-- A periodic refresh starts (R242). -/
def periodicNow (s : State) (p : Inputs) : Bool :=
  s.seqState = .idle ∧ hostOp p ≠ 1 ∧ hostOp p ≠ 2 ∧ s.refDue

/-- The settle delay ends (43_frame_sync.md R221). -/
def settledNow (s : State) (p : Inputs) : Bool :=
  s.seqState = .settle ∧ p.tickMs ∧ Config.kSettle ≤ (s.setCnt + 1).toNat

/-- `POLL_START_this_cycle` (R254). -/
def pollStartNow (s : State) (p : Inputs) : Bool := refreshNow s p || periodicNow s p || settledNow s p

/-- The frame byte offered is accepted (R211, R213). -/
def sentNow (s : State) (p : Inputs) : Bool := (s.seqState = .txCmd ∨ s.seqState = .txQry) ∧ p.txReady

/-- The byte accepted is the last of its frame (R211, R213). -/
def lastSentNow (s : State) (p : Inputs) : Bool :=
  p.txReady ∧ ((s.seqState = .txCmd ∧ s.txIdx.toNat = Config.kCmdLen - 1) ∨
    (s.seqState = .txQry ∧ s.txIdx.toNat = Config.kQryLen - 1))

/-- The start marker is consumed in HUNT (R216). -/
def markerNow (s : State) (p : Inputs) : Bool := s.seqState = .hunt ∧ p.rxValid ∧ p.rxData = Config.kStart

/-- A byte is consumed in ACC (R217). -/
def storedNow (s : State) (p : Inputs) : Bool := s.seqState = .acc ∧ p.rxValid

/-- RX_CNT after this cycle's byte, `cnt` of R220. -/
def cntNow (s : State) (p : Inputs) : BitVec 7 :=
  if markerNow s p then 1 else if storedNow s p then s.rxCnt + 1 else s.rxCnt

/-- The read budget runs out, `tmo` of R220. -/
def timeoutNow (s : State) (p : Inputs) : Bool := s.reading ∧ p.tickMs ∧ Config.kTmo ≤ (s.tmoCnt + 1).toNat

/-- The read ends (R218, R219). -/
def readEndsNow (s : State) (p : Inputs) : Bool :=
  s.reading ∧ ((cntNow s p).toNat = Config.kRxCap ∨ timeoutNow s p)

/-- The transition table (R240). -/
def transitionTable (s : State) (p : Inputs) : SeqState :=
  match s.seqState with
  | .idle =>
    if hostOp p = 1 then .txCmd else if hostOp p = 2 then .txQry else if s.refDue then .txQry else .idle
  | .txCmd => if p.txReady ∧ s.txIdx = 34 then .settle else .txCmd
  | .settle => if p.tickMs ∧ Config.kSettle ≤ (s.setCnt + 1).toNat then .txQry else .settle
  | .txQry => if p.txReady ∧ s.txIdx = 7 then .hunt else .txQry
  | .hunt => if readEndsNow s p then .decode else if markerNow s p then .acc else .hunt
  | .acc => if readEndsNow s p then .decode else .acc
  | .decode => .idle

/-- The event bit, if `b` (the `set |= bit(E)` of R254). -/
def eventIf (b : Bool) (e : Event) : BitVec 6 := if b then eventBit e else 0

/-- `set`: the events raised in this cycle (R254, 60_exceptions.md R301). -/
def eventsNow (s : State) (p : Inputs) : BitVec 6 :=
  eventIf (s.seqState = .decode) .done ||| eventIf (s.seqState = .decode ∧ s.replyValid) .updated
    ||| eventIf (s.seqState = .decode ∧ ¬ s.replyValid) .notReply
    ||| eventIf ((hostOp p = 1 ∨ hostOp p = 2) ∧ s.seqState ≠ .idle) .dropped
    ||| eventIf (hostOp p = 3) .badop ||| eventIf (timeoutNow s p) .timeout

/-- STEP(s, in) (R254). -/
def stepRule (s : State) (p : Inputs) : State :=
  if p.rst then { s.resetBlock.nextSample with out := cycleOutputs s p 0 }
  else
    { ds := if s.seqState = .decode ∧ s.replyValid then s.decodedDs else s.ds
      tLastPoll := if s.seqState = .decode ∧ s.replyValid then s.now else s.tLastPoll
      lastValid := if s.seqState = .decode then s.replyValid else s.lastValid
      tLastCmd := if applyNow s p then s.now else s.tLastCmd
      cmd := if applyNow s p then encodeFrame s.req s.ds s.cmd else s.cmd
      rxbuf :=
        if pollStartNow s p then rxbufZero
        else if markerNow s p then s.rxbuf.setIfInBounds 0 Config.kStart
        else if storedNow s p then s.rxbuf.setIfInBounds s.rxCnt.toNat p.rxData
        else s.rxbuf
      rxCnt := if pollStartNow s p then 0 else cntNow s p
      txIdx :=
        if applyNow s p ∨ pollStartNow s p ∨ lastSentNow s p then 0
        else if sentNow s p then s.txIdx + 1 else s.txIdx
      seqState := transitionTable s p
      origin :=
        if applyNow s p then .apply else if refreshNow s p then .hostRefresh
        else if periodicNow s p then .periodic else s.origin
      tmoCnt :=
        if lastSentNow s p ∧ s.seqState = .txQry then 0
        else if s.reading ∧ p.tickMs then s.tmoCnt + 1 else s.tmoCnt
      setCnt :=
        if lastSentNow s p ∧ s.seqState = .txCmd then 0
        else if s.seqState = .settle ∧ p.tickMs then s.setCnt + 1 else s.setCnt
      refCnt :=
        if pollStartNow s p then 0
        else if p.tickMs ∧ s.refCnt.toNat < Config.kRefresh then s.refCnt + 1 else s.refCnt
      now := if p.tickMs then s.now + 1 else s.now
      req := if p.hbWe ∧ hostReg p = 1 then p.hbWdata &&& reqMask else s.req
      evt := (s.evt &&& ~~~ hostClears p) ||| eventsNow s p
      ien := if p.hbWe ∧ hostReg p = 4 then p.hbWdata.extractLsb' 0 6 else s.ien
      inputs := s.inputs.tail
      cycle := s.cycle + 1
      out := cycleOutputs s p (hostView s (hostReg p))
      wireTx := if sentNow s p then s.wireTx ++ [s.txData] else s.wireTx }

end Sys2Proof.Machine
end

