-- ==== Sys2Proof/Safety.lean ====
section
/-! DEFINITION. The terms the statements use: the invariants of the block (10_state.md R65 and the bounds of R46 to R50),
the states in which no array index is out of range, and runs over listed samples. -/

namespace Sys2Proof.Machine

/-- Every array index an operation could use in this state names a byte that exists (R41, R43, R217). -/
structure IndexInRange (s : State) : Prop where
  txCmd : s.seqState = .txCmd → s.txIdx.toNat < Config.kCmdLen
  txQry : s.seqState = .txQry → s.txIdx.toNat < Config.kQryLen
  acc : s.seqState = .acc → s.rxCnt.toNat < Config.kRxCap

/-- The invariants of R65, with the register bounds of R42, R46 to R48 and the reserved bits of REQ (R50). -/
structure Inv (s : State) : Prop where
  modeLegal : 1 ≤ s.ds.mode.toNat ∧ s.ds.mode.toNat ≤ 5
  speedLegal : s.ds.speed.toNat ≤ 5
  setptLegal : 16 ≤ s.ds.setptInt.toNat ∧ s.ds.setptInt.toNat ≤ 31
  rxCntLegal : s.rxCnt.toNat ≤ Config.kRxCap
  txCmdIdx : s.seqState = .txCmd → s.txIdx.toNat ≤ 34
  txQryIdx : s.seqState = .txQry → s.txIdx.toNat ≤ 7
  txIdxElsewhere : s.seqState ≠ .txCmd → s.seqState ≠ .txQry → s.txIdx = 0
  noByteYet : s.seqState = .txQry ∨ s.seqState = .hunt → s.rxCnt = 0
  bufferClear : s.seqState = .txQry ∨ s.seqState = .hunt → ∀ i < Config.kRxCap, s.rxByte i = 0
  markerFirst : s.seqState = .acc ∨ s.seqState = .decode → (s.rxByte 0 = Config.kStart ↔ 1 ≤ s.rxCnt.toNat)
  zeroBeyond : s.seqState = .acc ∨ s.seqState = .decode →
    ∀ i < Config.kRxCap, s.rxCnt.toNat ≤ i → s.rxByte i = 0
  accCount : s.seqState = .acc → 1 ≤ s.rxCnt.toNat ∧ s.rxCnt.toNat < Config.kRxCap
  tmoLegal : s.tmoCnt.toNat ≤ Config.kTmo
  tmoReading : s.seqState = .hunt ∨ s.seqState = .acc → s.tmoCnt.toNat < Config.kTmo
  setLegal : s.setCnt.toNat ≤ Config.kSettle
  setSettling : s.seqState = .settle → s.setCnt.toNat < Config.kSettle
  refLegal : s.refCnt.toNat ≤ Config.kRefresh
  reqReserved : s.req &&& ~~~ reqMask = 0

/-- CMD[34] is the checksum of CMD[0..33] (41_checksum.md R172). -/
def checksumOk (s : State) : Prop := xorFold s.cmd.toList 0 33 = s.cmdByte 34

/-- Every byte and every bit of CMD that the encoder does not own is the template's (10_state.md R40, 30_encoding.md R100
to R105). -/
def TemplateKept (s : State) : Prop :=
  (∀ i, i ≤ 6 ∨ (12 ≤ i ∧ i ≤ 33) → s.cmdByte i = Config.cmdTemplate i) ∧
  s.cmdByte 7 &&& 0x7B = Config.cmdTemplate 7 &&& 0x7B ∧
  s.cmdByte 8 &&& 0xB0 = Config.cmdTemplate 8 &&& 0xB0 ∧
  s.cmdByte 11 &&& 0xFD = Config.cmdTemplate 11 &&& 0xFD

/-- `n` clock cycles, stopping at the first fault or refusal. -/
def runCycles (n : Nat) (s : State) : Host.Outcome State Fault Refusal := Sys2Proof.core.run n s

/-- The next `n` cycles have listed samples, each of which meets `good`. -/
def SamplesMeet (n : Nat) (s : State) (good : Inputs → Prop) : Prop :=
  n ≤ s.inputs.length ∧ ∀ p ∈ s.inputs.take n, good p

/-- How many of the first `n` listed samples carry a tick (00_scope.md R12). -/
def ticksIn (n : Nat) (s : State) : Nat := (s.inputs.take n).countP fun p => p.tickMs

/-! ## Comparing states, transactions and cycles -/

/-- `t` holds what `s` holds in every state element the spec names (R30); the model's own fields may differ. -/
def sameBlock (s t : State) : Prop :=
  { t with inputs := s.inputs, cycle := s.cycle, out := s.out, wireTx := s.wireTx } = s

/-- The transaction word with write enable `we`, byte offset `addr` and data `data` (R115). -/
def hostTxn (we : Bool) (addr : BitVec 8) (data : Word) : Txn :=
  txnField (BitVec.ofBool we) 40 ||| txnField addr 32 ||| txnField data 0

/-- The same cycle with another host transaction. -/
def Inputs.withBus (p : Inputs) (we : Bool) (addr : BitVec 8) (data : Word) : Inputs :=
  { p with hbWe := we, hbAddr := addr, hbWdata := data }

/-- The host writes bit n of the data of its write to word index `reg` as 1. -/
def hostWritesBit (p : Inputs) (reg n : Nat) : Bool := p.hbWe && hostReg p == reg && p.hbWdata.getLsbD n

/-- What one HUNT or ACC cycle leaves in the registers of the read (43_frame_sync.md R220). -/
structure ReadResult where
  rxbuf : Vector Byte Config.kRxCap
  cnt : BitVec 7
  tmoCnt : BitVec 10
  tmo : Bool
  next : SeqState

/-- The pseudocode of R220: first the byte, then the counter, then the end of the read. -/
def readCycle (s : State) (p : Inputs) : ReadResult :=
  let marker := s.seqState = .hunt ∧ p.rxValid ∧ p.rxData = 0xBB
  let stored := s.seqState = .acc ∧ p.rxValid
  let buf :=
    if marker then s.rxbuf.setIfInBounds 0 0xBB
    else if stored then s.rxbuf.setIfInBounds s.rxCnt.toNat p.rxData else s.rxbuf
  let cnt := if marker then 1 else if stored then s.rxCnt + 1 else s.rxCnt
  let t := if p.tickMs then s.tmoCnt + 1 else s.tmoCnt
  let tmo := p.tickMs && decide (500 ≤ (s.tmoCnt + 1).toNat)
  { rxbuf := buf
    cnt := cnt
    tmoCnt := t
    tmo := tmo
    next :=
      if cnt.toNat = 80 ∨ tmo then .decode
      else if s.seqState = .acc ∨ marker then .acc else .hunt }

end Sys2Proof.Machine
end

