-- ==== Sys2Proof/Certificates/Slice0/Obligations.lean ====
section
/-! DEFINITION. The statements for the provers, each naming the rules of spec/ it formalises. A statement that rests on a
choice of the model says so and names the log entry. -/

section Statements

open Sys2Proof Sys2Proof.Machine

/-- Words written out from the encoding decode to their operations (30_encoding.md R115, 30_encoding.md R117,
95_test_vectors.md section 7). -/
def Obligations.WrittenOutWordsDecode : Prop :=
  decodeTxn 0x10000000001 = .wrCtrlApply 0 0 ∧
  decodeTxn 0x1043D5108CA = .wrReq 0 0x3D5108CA ∧
  decodeTxn 0x00800000000 = .rdStatus 0 0 ∧
  decodeTxn 0x10C0000003F = .wrEvt 0 0x3F ∧
  decodeTxn 0x06000000000 = .rdCmdbuf8 0 0 ∧
  decodeTxn 0x08800000000 = .rdRxbuf2 0 0 ∧
  decodeTxn 0x1FF00000000 = .wrUnmappedE0ToFC 0x1F 0

/-- Decoding the word of any bus operation gives the operation back, every operand included (30_encoding.md R115,
30_encoding.md R117). That operands include the bits the bus ignores is the model's choice (log 14). -/
def Obligations.DecodeOfEncode : Prop :=
  ∀ i : Instr, wellFormed i = true → ∃ w, encode i = some w ∧ decodeTxn w = i

/-- Every 41-bit word is the word of the operation it decodes to (30_encoding.md R115, 45_host_bus.md R296). That
operands include the bits the bus ignores is the model's choice (log 14). -/
def Obligations.EncodeOfDecode : Prop :=
  ∀ w : Txn, encode (decodeTxn w) = some w

/-- An access to offset o acts as an access to o & 0xFC, and no access traps (R83). -/
def Obligations.AddressLowBitsIgnored : Prop :=
  ∀ (we : Bool) (addr : BitVec 8) (data : Word) (s : State),
    exec (decodeTxn (hostTxn we addr data)) s = exec (decodeTxn (hostTxn we (addr &&& 0xFC) data)) s ∧
    ∃ t, exec (decodeTxn (hostTxn we addr data)) s = .next t

/-- Every state element after reset has the value of the reset table (R66). -/
def Obligations.ResetStateValues : Prop :=
  State.reset.ds =
    { power := false, eco := false, turbo := false, mode := 5, speed := 0, setptInt := 16, setptHalf := false
      rawRoom := 0x00, rawPipe := 0x00, rawOut := 0x00, rawOutpipe := 0x00 } ∧
  State.reset.tLastPoll = 0 ∧ State.reset.tLastCmd = 0 ∧ State.reset.now = 0 ∧
  (∀ i < 35, State.reset.cmdByte i = Config.cmdTemplate i) ∧
  (∀ i < 80, State.reset.rxByte i = 0x00) ∧
  State.reset.rxCnt = 0 ∧ State.reset.txIdx = 0 ∧ State.reset.tmoCnt = 0 ∧ State.reset.setCnt = 0 ∧
  State.reset.refCnt = 0 ∧ State.reset.seqState = .txQry ∧ State.reset.origin = .startup ∧
  State.reset.req = 0x3F700000 ∧ State.reset.evt = 0 ∧ State.reset.ien = 0 ∧ State.reset.lastValid = false

/-- The invariants hold in the reset state (10_state.md R65, 10_state.md R66, 10_state.md R40). -/
def Obligations.InvAtReset : Prop :=
  Inv State.reset ∧ TemplateKept State.reset

/-- STARTUP and every cycle with rst = 1 give the reset state, whatever the state and the other inputs
(70_reset_and_hazards.md R330, 10_state.md R60, 44_sequencer.md R241). What happens to inputs, cycle, out and
wireTx is the model's choice (logs 1, 9 and 10). -/
def Obligations.ResetHeld : Prop :=
  (∀ s, exec .startup s =
    .next { State.reset with inputs := s.inputs, cycle := s.cycle, out := s.out, wireTx := s.wireTx }) ∧
  (∀ s, s.ports.rst = true → step s =
    .next { State.reset with
      inputs := s.inputs.tail, cycle := s.cycle + 1, wireTx := s.wireTx
      out := { txValid := false, txData := 0x00, rxReady := false, irq := false
               hbRdata := hostView State.reset (hostReg s.ports) } }) ∧
  (∀ n s, 1 ≤ n → SamplesMeet n s (fun p => p.rst = true) → ∃ t, runCycles n s = .next t ∧
    sameBlock State.reset t ∧ t.wireTx = s.wireTx ∧ t.out.txValid = false ∧ t.out.txData = 0x00 ∧
    t.out.rxReady = false ∧ t.out.irq = false ∧
    ∀ p, s.inputs[n - 1]? = some p → t.out.hbRdata = hostView State.reset (hostReg p))

/-- The read-only registers return their views; a write to one is ignored (R275, R278, R279, R280, R281, R282,
R284, R285). -/
def Obligations.ReadOnlyRegisters : Prop :=
  ∀ (lane : BitVec 2) (data : Word) (s : State),
    exec (.rdStatus lane data) s = .next (s.driveRdata (statusView s)) ∧
    exec (.wrStatus lane data) s = .next (s.driveRdata (statusView s)) ∧
    exec (.rdDev0 lane data) s = .next (s.driveRdata (dev0View s)) ∧
    exec (.wrDev0 lane data) s = .next (s.driveRdata (dev0View s)) ∧
    exec (.rdDev1 lane data) s = .next (s.driveRdata (dev1View s)) ∧
    exec (.wrDev1 lane data) s = .next (s.driveRdata (dev1View s)) ∧
    exec (.rdNow lane data) s = .next (s.driveRdata (s.now)) ∧
    exec (.wrNow lane data) s = .next (s.driveRdata (s.now)) ∧
    exec (.rdTLastPoll lane data) s = .next (s.driveRdata (s.tLastPoll)) ∧
    exec (.wrTLastPoll lane data) s = .next (s.driveRdata (s.tLastPoll)) ∧
    exec (.rdTLastCmd lane data) s = .next (s.driveRdata (s.tLastCmd)) ∧
    exec (.wrTLastCmd lane data) s = .next (s.driveRdata (s.tLastCmd)) ∧
    exec (.rdTmr0 lane data) s = .next (s.driveRdata (fieldAt s.setCnt 16 ||| s.tmoCnt.setWidth 32)) ∧
    exec (.wrTmr0 lane data) s = .next (s.driveRdata (fieldAt s.setCnt 16 ||| s.tmoCnt.setWidth 32)) ∧
    exec (.rdTmr1 lane data) s = .next (s.driveRdata (s.refCnt.setWidth 32)) ∧
    exec (.wrTmr1 lane data) s = .next (s.driveRdata (s.refCnt.setWidth 32))

/-- CTRL reads 0; OP 0 does nothing; OP 3 raises BADOP and nothing else, in any state (R247, R248, R272). -/
def Obligations.CtrlWithoutExchange : Prop :=
  (∀ lane data s, exec (.rdCtrl lane data) s = .next (s.driveRdata 0)) ∧
  (∀ lane rest s, exec (.wrCtrlNop lane rest) s = .next (s.driveRdata 0)) ∧
  (∀ lane rest s,
    exec (.wrCtrlBadop lane rest) s = .next { s with evt := s.evt ||| 0b010000, out := { s.out with hbRdata := 0 } }) ∧
  (∀ lane lane' rest rest' s,
    exec (.wrCtrlApply lane rest) s = exec (.wrCtrlApply lane' rest') s ∧
    exec (.wrCtrlRefresh lane rest) s = exec (.wrCtrlRefresh lane' rest') s) ∧
  decodeTxn 0x10000000005 = .wrCtrlApply 0 1 ∧
  (∀ (s : State) (p : Inputs) (data : Word), data.extractLsb' 0 2 = 0 →
    clockEdge (p.withBus false 0x00 p.hbWdata) s = clockEdge (p.withBus true 0x00 data) s) ∧
  (∀ (s : State) (p : Inputs) (addr : BitVec 8) (data : Word), IndexInRange s → p.rst = false →
    addr.extractLsb' 2 6 = 0 → data.extractLsb' 0 2 = 3 → ∃ t, clockEdge (p.withBus true 0x00 0) s = .next t ∧
    clockEdge (p.withBus true addr data) s = .next { t with evt := t.evt ||| 0b010000 })

/-- In IDLE, APPLY encodes and starts a command exchange, REFRESH starts a poll (44_sequencer.md R243,
44_sequencer.md R244, 43_frame_sync.md R214). -/
def Obligations.OperationsAcceptedInIdle : Prop :=
  ∀ (lane : BitVec 2) (rest : BitVec 30) (s : State), s.seqState = .idle →
    exec (.wrCtrlApply lane rest) s =
      .next { s with
        cmd := encodeFrame s.req s.ds s.cmd, txIdx := 0, origin := .apply, tLastCmd := s.now, seqState := .txCmd
        out := { s.out with hbRdata := 0 } } ∧
    exec (.wrCtrlRefresh lane rest) s =
      .next { s with
        txIdx := 0, rxCnt := 0, rxbuf := Vector.replicate 80 0x00, refCnt := 0, origin := .hostRefresh
        seqState := .txQry, out := { s.out with hbRdata := 0 } }

/-- Outside IDLE, CTRL with OP 1 or 2 only raises DROPPED (R246). -/
def Obligations.BusyOperationsDropped : Prop :=
  (∀ (lane : BitVec 2) (rest : BitVec 30) (s : State), s.seqState ≠ .idle →
    exec (.wrCtrlApply lane rest) s =
      .next { s with evt := s.evt ||| 0b001000, out := { s.out with hbRdata := 0 } } ∧
    exec (.wrCtrlRefresh lane rest) s =
      .next { s with evt := s.evt ||| 0b001000, out := { s.out with hbRdata := 0 } }) ∧
  (∀ (s : State) (p : Inputs) (addr : BitVec 8) (data : Word), IndexInRange s → s.seqState ≠ .idle →
    p.rst = false → addr.extractLsb' 2 6 = 0 → (data.extractLsb' 0 2 = 1 ∨ data.extractLsb' 0 2 = 2) →
    ∃ t, clockEdge (p.withBus true 0x00 0) s = .next t ∧
    clockEdge (p.withBus true addr data) s = .next { t with evt := t.evt ||| 0b001000 })

/-- REQ takes the written word without its reserved bits, and only an accepted APPLY reads it (45_host_bus.md R273,
45_host_bus.md R274, 44_sequencer.md R253). The read value stands in out, a field of the model's own (log 9). -/
def Obligations.RequestReachesOnlyApply : Prop :=
  (∀ (lane : BitVec 2) (data : Word) (s : State),
    exec (.rdReq lane data) s = .next (s.driveRdata s.req) ∧
    exec (.wrReq lane data) s = .next { s with req := data &&& 0x3F7FFFFF, out := { s.out with hbRdata := s.req } }) ∧
  (∀ (s : State) (p : Inputs) (r : Word), IndexInRange s → p.rst = false →
    ¬ (s.seqState = .idle ∧ hostOp p = 1) → ∃ t, clockEdge p s = .next t ∧
    clockEdge p { s with req := r } =
      .next { t with
        req := if p.hbWe ∧ hostReg p = 1 then t.req else r
        out := { t.out with hbRdata := if hostReg p = 1 then r else t.out.hbRdata } })

/-- IEN reads zero-extended; a write replaces it with data[5:0] and irq follows (R276). -/
def Obligations.InterruptEnable : Prop :=
  ∀ (lane : BitVec 2) (data : Word) (s : State),
    exec (.rdIen lane data) s = .next (s.driveRdata (s.ien.setWidth 32)) ∧
    ∃ t, exec (.wrIen lane data) s = .next t ∧
      t = { s with ien := data.extractLsb' 0 6, out := { s.out with hbRdata := s.ien.setWidth 32 } } ∧
      t.irq = (s.evt &&& data.extractLsb' 0 6 != 0)

/-- EVT reads zero-extended; a write clears the bits written as 1, and an event of the same cycle wins
(45_host_bus.md R277, 60_exceptions.md R300, 60_exceptions.md R301). At the counter value 1023, which no run
reaches, the wrap of the 10-bit sum is the model's choice (log 17). -/
def Obligations.EventAcknowledge : Prop :=
  (∀ (lane : BitVec 2) (data : Word) (s : State),
    exec (.rdEvt lane data) s = .next (s.driveRdata (s.evt.setWidth 32)) ∧
    exec (.wrEvt lane data) s =
      .next { s with evt := s.evt &&& ~~~(data.extractLsb' 0 6), out := { s.out with hbRdata := s.evt.setWidth 32 } }) ∧
  (∀ s : State, IndexInRange s → s.ports.rst = false → s.ports.hbWe = true → hostReg s.ports = 3 →
    ∃ t, step s = .next t ∧
      t.evt = (s.evt &&& ~~~(s.ports.hbWdata.extractLsb' 0 6)) ||| eventsNow s s.ports) ∧
  (∀ s : State, ∀ clr : BitVec 6, s.evt &&& clr = 0 → s.clearEvents clr = s)

/-- The CMDBUF window returns four CMD bytes a word, and writes to it are ignored (45_host_bus.md R291,
45_host_bus.md R283, 20_memory.md R82). -/
def Obligations.CommandWindow : Prop :=
  ∀ (lane : BitVec 2) (data : Word) (s : State),
    exec (.rdCmdbuf0 lane data) s = .next (s.driveRdata (wordOfBytes (s.cmdByte 3) (s.cmdByte 2) (s.cmdByte 1) (s.cmdByte 0))) ∧
    exec (.wrCmdbuf0 lane data) s = exec (.rdCmdbuf0 lane data) s ∧
    exec (.rdCmdbuf1 lane data) s = .next (s.driveRdata (wordOfBytes (s.cmdByte 7) (s.cmdByte 6) (s.cmdByte 5) (s.cmdByte 4))) ∧
    exec (.wrCmdbuf1 lane data) s = exec (.rdCmdbuf1 lane data) s ∧
    exec (.rdCmdbuf2 lane data) s = .next (s.driveRdata (wordOfBytes (s.cmdByte 11) (s.cmdByte 10) (s.cmdByte 9) (s.cmdByte 8))) ∧
    exec (.wrCmdbuf2 lane data) s = exec (.rdCmdbuf2 lane data) s ∧
    exec (.rdCmdbuf3 lane data) s = .next (s.driveRdata (wordOfBytes (s.cmdByte 15) (s.cmdByte 14) (s.cmdByte 13) (s.cmdByte 12))) ∧
    exec (.wrCmdbuf3 lane data) s = exec (.rdCmdbuf3 lane data) s ∧
    exec (.rdCmdbuf4 lane data) s = .next (s.driveRdata (wordOfBytes (s.cmdByte 19) (s.cmdByte 18) (s.cmdByte 17) (s.cmdByte 16))) ∧
    exec (.wrCmdbuf4 lane data) s = exec (.rdCmdbuf4 lane data) s ∧
    exec (.rdCmdbuf5 lane data) s = .next (s.driveRdata (wordOfBytes (s.cmdByte 23) (s.cmdByte 22) (s.cmdByte 21) (s.cmdByte 20))) ∧
    exec (.wrCmdbuf5 lane data) s = exec (.rdCmdbuf5 lane data) s ∧
    exec (.rdCmdbuf6 lane data) s = .next (s.driveRdata (wordOfBytes (s.cmdByte 27) (s.cmdByte 26) (s.cmdByte 25) (s.cmdByte 24))) ∧
    exec (.wrCmdbuf6 lane data) s = exec (.rdCmdbuf6 lane data) s ∧
    exec (.rdCmdbuf7 lane data) s = .next (s.driveRdata (wordOfBytes (s.cmdByte 31) (s.cmdByte 30) (s.cmdByte 29) (s.cmdByte 28))) ∧
    exec (.wrCmdbuf7 lane data) s = exec (.rdCmdbuf7 lane data) s ∧
    exec (.rdCmdbuf8 lane data) s = .next (s.driveRdata (wordOfBytes 0x00 (s.cmdByte 34) (s.cmdByte 33) (s.cmdByte 32))) ∧
    exec (.wrCmdbuf8 lane data) s = exec (.rdCmdbuf8 lane data) s

/-- The RXBUF window returns four RXBUF bytes a word, and writes to it are ignored (45_host_bus.md R293,
45_host_bus.md R283, 20_memory.md R82). -/
def Obligations.ReceiveWindow : Prop :=
  ∀ (lane : BitVec 2) (data : Word) (s : State),
    exec (.rdRxbuf0 lane data) s =
      .next (s.driveRdata (wordOfBytes (s.rxByte 3) (s.rxByte 2) (s.rxByte 1) (s.rxByte 0))) ∧
    exec (.wrRxbuf0 lane data) s = exec (.rdRxbuf0 lane data) s ∧
    exec (.rdRxbuf1 lane data) s =
      .next (s.driveRdata (wordOfBytes (s.rxByte 7) (s.rxByte 6) (s.rxByte 5) (s.rxByte 4))) ∧
    exec (.wrRxbuf1 lane data) s = exec (.rdRxbuf1 lane data) s ∧
    exec (.rdRxbuf2 lane data) s =
      .next (s.driveRdata (wordOfBytes (s.rxByte 11) (s.rxByte 10) (s.rxByte 9) (s.rxByte 8))) ∧
    exec (.wrRxbuf2 lane data) s = exec (.rdRxbuf2 lane data) s ∧
    exec (.rdRxbuf3 lane data) s =
      .next (s.driveRdata (wordOfBytes (s.rxByte 15) (s.rxByte 14) (s.rxByte 13) (s.rxByte 12))) ∧
    exec (.wrRxbuf3 lane data) s = exec (.rdRxbuf3 lane data) s ∧
    exec (.rdRxbuf4 lane data) s =
      .next (s.driveRdata (wordOfBytes (s.rxByte 19) (s.rxByte 18) (s.rxByte 17) (s.rxByte 16))) ∧
    exec (.wrRxbuf4 lane data) s = exec (.rdRxbuf4 lane data) s ∧
    exec (.rdRxbuf5 lane data) s =
      .next (s.driveRdata (wordOfBytes (s.rxByte 23) (s.rxByte 22) (s.rxByte 21) (s.rxByte 20))) ∧
    exec (.wrRxbuf5 lane data) s = exec (.rdRxbuf5 lane data) s ∧
    exec (.rdRxbuf6 lane data) s =
      .next (s.driveRdata (wordOfBytes (s.rxByte 27) (s.rxByte 26) (s.rxByte 25) (s.rxByte 24))) ∧
    exec (.wrRxbuf6 lane data) s = exec (.rdRxbuf6 lane data) s ∧
    exec (.rdRxbuf7 lane data) s =
      .next (s.driveRdata (wordOfBytes (s.rxByte 31) (s.rxByte 30) (s.rxByte 29) (s.rxByte 28))) ∧
    exec (.wrRxbuf7 lane data) s = exec (.rdRxbuf7 lane data) s ∧
    exec (.rdRxbuf8 lane data) s =
      .next (s.driveRdata (wordOfBytes (s.rxByte 35) (s.rxByte 34) (s.rxByte 33) (s.rxByte 32))) ∧
    exec (.wrRxbuf8 lane data) s = exec (.rdRxbuf8 lane data) s ∧
    exec (.rdRxbuf9 lane data) s =
      .next (s.driveRdata (wordOfBytes (s.rxByte 39) (s.rxByte 38) (s.rxByte 37) (s.rxByte 36))) ∧
    exec (.wrRxbuf9 lane data) s = exec (.rdRxbuf9 lane data) s ∧
    exec (.rdRxbuf10 lane data) s =
      .next (s.driveRdata (wordOfBytes (s.rxByte 43) (s.rxByte 42) (s.rxByte 41) (s.rxByte 40))) ∧
    exec (.wrRxbuf10 lane data) s = exec (.rdRxbuf10 lane data) s ∧
    exec (.rdRxbuf11 lane data) s =
      .next (s.driveRdata (wordOfBytes (s.rxByte 47) (s.rxByte 46) (s.rxByte 45) (s.rxByte 44))) ∧
    exec (.wrRxbuf11 lane data) s = exec (.rdRxbuf11 lane data) s ∧
    exec (.rdRxbuf12 lane data) s =
      .next (s.driveRdata (wordOfBytes (s.rxByte 51) (s.rxByte 50) (s.rxByte 49) (s.rxByte 48))) ∧
    exec (.wrRxbuf12 lane data) s = exec (.rdRxbuf12 lane data) s ∧
    exec (.rdRxbuf13 lane data) s =
      .next (s.driveRdata (wordOfBytes (s.rxByte 55) (s.rxByte 54) (s.rxByte 53) (s.rxByte 52))) ∧
    exec (.wrRxbuf13 lane data) s = exec (.rdRxbuf13 lane data) s ∧
    exec (.rdRxbuf14 lane data) s =
      .next (s.driveRdata (wordOfBytes (s.rxByte 59) (s.rxByte 58) (s.rxByte 57) (s.rxByte 56))) ∧
    exec (.wrRxbuf14 lane data) s = exec (.rdRxbuf14 lane data) s ∧
    exec (.rdRxbuf15 lane data) s =
      .next (s.driveRdata (wordOfBytes (s.rxByte 63) (s.rxByte 62) (s.rxByte 61) (s.rxByte 60))) ∧
    exec (.wrRxbuf15 lane data) s = exec (.rdRxbuf15 lane data) s ∧
    exec (.rdRxbuf16 lane data) s =
      .next (s.driveRdata (wordOfBytes (s.rxByte 67) (s.rxByte 66) (s.rxByte 65) (s.rxByte 64))) ∧
    exec (.wrRxbuf16 lane data) s = exec (.rdRxbuf16 lane data) s ∧
    exec (.rdRxbuf17 lane data) s =
      .next (s.driveRdata (wordOfBytes (s.rxByte 71) (s.rxByte 70) (s.rxByte 69) (s.rxByte 68))) ∧
    exec (.wrRxbuf17 lane data) s = exec (.rdRxbuf17 lane data) s ∧
    exec (.rdRxbuf18 lane data) s =
      .next (s.driveRdata (wordOfBytes (s.rxByte 75) (s.rxByte 74) (s.rxByte 73) (s.rxByte 72))) ∧
    exec (.wrRxbuf18 lane data) s = exec (.rdRxbuf18 lane data) s ∧
    exec (.rdRxbuf19 lane data) s =
      .next (s.driveRdata (wordOfBytes (s.rxByte 79) (s.rxByte 78) (s.rxByte 77) (s.rxByte 76))) ∧
    exec (.wrRxbuf19 lane data) s = exec (.rdRxbuf19 lane data) s

/-- Unmapped offsets read 0 and ignore writes, with no event and no error (R295). -/
def Obligations.UnmappedOffsets : Prop :=
  ∀ (lane : BitVec 2) (low4 : BitVec 4) (low5 : BitVec 5) (data : Word) (s : State),
    exec (.rdUnmapped30To3C low4 data) s = .next (s.driveRdata 0x00000000) ∧
    exec (.wrUnmapped30To3C low4 data) s = .next (s.driveRdata 0x00000000) ∧
    exec (.rdUnmapped64 lane data) s = .next (s.driveRdata 0x00000000) ∧
    exec (.wrUnmapped64 lane data) s = .next (s.driveRdata 0x00000000) ∧
    exec (.rdUnmapped68 lane data) s = .next (s.driveRdata 0x00000000) ∧
    exec (.wrUnmapped68 lane data) s = .next (s.driveRdata 0x00000000) ∧
    exec (.rdUnmapped6C lane data) s = .next (s.driveRdata 0x00000000) ∧
    exec (.wrUnmapped6C lane data) s = .next (s.driveRdata 0x00000000) ∧
    exec (.rdUnmapped70To7C low4 data) s = .next (s.driveRdata 0x00000000) ∧
    exec (.wrUnmapped70To7C low4 data) s = .next (s.driveRdata 0x00000000) ∧
    exec (.rdUnmappedD0ToDC low4 data) s = .next (s.driveRdata 0x00000000) ∧
    exec (.wrUnmappedD0ToDC low4 data) s = .next (s.driveRdata 0x00000000) ∧
    exec (.rdUnmappedE0ToFC low5 data) s = .next (s.driveRdata 0x00000000) ∧
    exec (.wrUnmappedE0ToFC low5 data) s = .next (s.driveRdata 0x00000000)

/-- Every transaction word has the read and the write effect of the complete bus map (R296). -/
def Obligations.CompleteBusMap : Prop :=
  ∀ (w : Txn) (s : State),
    exec (decodeTxn w) s = .next
      ((if txnWe w = false then s
        else if txnIndex w = 0 then
          if txnOp w = 0 then s
          else if txnOp w = 1 then if s.seqState = .idle then s.applyAccept else s.raise .dropped
          else if txnOp w = 2 then if s.seqState = .idle then s.refreshAccept else s.raise .dropped
          else s.raise .badop
        else if txnIndex w = 1 then { s with req := txnData w &&& 0x3F7FFFFF }
        else if txnIndex w = 3 then { s with evt := s.evt &&& ~~~((txnData w).extractLsb' 0 6) }
        else if txnIndex w = 4 then { s with ien := (txnData w).extractLsb' 0 6 }
        else s).driveRdata (hostView s (txnIndex w)))

/-- hb_rdata is the view at the start of the cycle, and a read has no side effect (R270). -/
def Obligations.ReadsReturnOldValueWithoutEffect : Prop :=
  (∀ s : State, IndexInRange s → s.ports.rst = false → ∃ t, step s = .next t ∧
    t.out.hbRdata = hostView s (hostReg s.ports)) ∧
  (∀ (s : State) (p : Inputs) (addr : BitVec 8) (data : Word), IndexInRange s → p.rst = false → p.hbWe = false →
    ∃ t, clockEdge p s = .next t ∧
    clockEdge (p.withBus false addr data) s =
      .next (t.driveRdata (hostView s (addr.extractLsb' 2 6).toNat)))

/-- STATUS holds STATE, BUSY, REF_DUE, LAST_VALID, ORIGIN, RX_CNT and TX_IDX at their bits (R52). -/
def Obligations.StatusFields : Prop :=
  (∀ s : State,
    (statusView s).extractLsb' 0 3 =
      (match s.seqState with
        | .idle => 0 | .txCmd => 1 | .settle => 2 | .txQry => 3 | .hunt => 4 | .acc => 5 | .decode => 6) ∧
    (statusView s).getLsbD 3 = decide (s.seqState ≠ .idle) ∧
    (statusView s).getLsbD 4 = decide (30000 ≤ s.refCnt.toNat) ∧
    (statusView s).getLsbD 5 = s.lastValid ∧
    (statusView s).extractLsb' 6 2 =
      (match s.origin with | .startup => 0 | .periodic => 1 | .hostRefresh => 2 | .apply => 3) ∧
    (statusView s).extractLsb' 8 7 = s.rxCnt ∧ (statusView s).getLsbD 15 = false ∧
    (statusView s).extractLsb' 16 6 = s.txIdx ∧ (statusView s).extractLsb' 22 10 = 0) ∧
  statusView State.reset = 0x0000000B

/-- DEV0 holds the DS flags, mode, speed and set-point and the derived fan mode and preset at their bits (R56,
R190, R191, R192). -/
def Obligations.Dev0Fields : Prop :=
  (∀ s : State,
    (dev0View s).getLsbD 0 = s.ds.power ∧ (dev0View s).getLsbD 1 = s.ds.eco ∧
    (dev0View s).getLsbD 2 = s.ds.turbo ∧ (dev0View s).getLsbD 3 = s.ds.setptHalf ∧
    (dev0View s).extractLsb' 4 3 = s.ds.mode ∧ (dev0View s).getLsbD 7 = false ∧
    (dev0View s).extractLsb' 8 3 = s.ds.speed ∧ (dev0View s).getLsbD 11 = false ∧
    (dev0View s).extractLsb' 12 2 = ([0, 1, 2, 3, 3, 3] : List (BitVec 2)).getD s.ds.speed.toNat 0 ∧
    (dev0View s).extractLsb' 14 2 = (if s.ds.eco then 1 else if s.ds.turbo then 2 else 0) ∧
    (dev0View s).extractLsb' 16 8 = s.ds.setptInt ∧ (dev0View s).extractLsb' 24 8 = 0) ∧
  dev0View State.reset = 0x00100050 ∧
  modeOf 1 = .cool ∧ modeOf 2 = .fan ∧ modeOf 3 = .dry ∧ modeOf 4 = .heat ∧ modeOf 5 = .auto

/-- DEV1 holds the four raw bytes, TMR0 and TMR1 the counters, at their bits (R57, R58). -/
def Obligations.Dev1AndTimerFields : Prop :=
  (∀ s : State,
    (dev1View s).extractLsb' 0 8 = s.ds.rawRoom ∧ (dev1View s).extractLsb' 8 8 = s.ds.rawPipe ∧
    (dev1View s).extractLsb' 16 8 = s.ds.rawOut ∧ (dev1View s).extractLsb' 24 8 = s.ds.rawOutpipe ∧
    (tmr0View s).extractLsb' 0 10 = s.tmoCnt ∧ (tmr0View s).extractLsb' 10 6 = 0 ∧
    (tmr0View s).extractLsb' 16 10 = s.setCnt ∧ (tmr0View s).extractLsb' 26 6 = 0 ∧
    (tmr1View s).extractLsb' 0 15 = s.refCnt ∧ (tmr1View s).extractLsb' 15 17 = 0) ∧
  dev1View State.reset = 0

/-- Byte i of CMD and of RXBUF stands little-endian in its window word; absent bytes read 0x00 (R82). -/
def Obligations.WindowByteOrder : Prop :=
  ∀ s : State,
    (∀ i < 35, (hostView s ((0x40 + 4 * (i / 4)) / 4)).extractLsb' (8 * (i % 4)) 8 = s.cmdByte i) ∧
    (hostView s (0x60 / 4)).extractLsb' 24 8 = 0x00 ∧ (∀ i, 35 ≤ i → i ≤ 37 → s.cmdByte i = 0x00) ∧
    (∀ i < 80, (hostView s ((0x80 + 4 * (i / 4)) / 4)).extractLsb' (8 * (i % 4)) 8 = s.rxByte i)

/-- ENCODE writes bytes 7, 8, 9, 10, 11 and 34 of CMD as its pseudocode says, and nothing else (40_encoder.md R140,
40_encoder.md R148, 30_encoding.md R101, 30_encoding.md R102, 30_encoding.md R105). -/
def Obligations.EncodeWritesFrame : Prop :=
  ∀ s : State, ∃ t, exec .encode s = .next t ∧ t = { s with cmd := t.cmd } ∧
    t.cmdByte 7 = (s.cmdByte 7 &&& 0x7B) ||| bitAt (flagSel (reqEco s.req) s.ds.eco) 7
      ||| bitAt (flagSel (reqPower s.req) s.ds.power) 2 ∧
    t.cmdByte 8 = (s.cmdByte 8 &&& 0xB0) ||| bitAt (flagSel (reqTurbo s.req) s.ds.turbo) 6
      ||| modeCode (modeSel s.req s.ds) ∧
    t.cmdByte 9 = tempCode s.req s.ds ∧ t.cmdByte 10 = speedCode (speedSel s.req s.ds) ∧
    t.cmdByte 11 = (s.cmdByte 11 &&& 0xFD) ||| bitAt (halfSel s.req ((s.cmdByte 11).getLsbD 1)) 1 ∧
    t.cmdByte 34 = xorFold t.cmd.toList 0 33 ∧
    ∀ i, i ≤ 6 ∨ (12 ≤ i ∧ i ≤ 33) → t.cmdByte i = s.cmdByte i

/-- Each field of the encoded frame is the requested value in range, its fallback otherwise (R142, R143, R144,
R145, R146, R147). -/
def Obligations.EncodeFieldRules : Prop :=
  ∀ s : State, ∃ t, exec .encode s = .next t ∧ t = { s with cmd := t.cmd } ∧
    rbPower t.cmd =
      (if reqPower s.req = 0 then false else if reqPower s.req = 1 then true else s.ds.power) ∧
    rbEco t.cmd = (if reqEco s.req = 0 then false else if reqEco s.req = 1 then true else s.ds.eco) ∧
    rbTurbo t.cmd = (if reqTurbo s.req = 0 then false else if reqTurbo s.req = 1 then true else s.ds.turbo) ∧
    t.cmdByte 8 &&& 0x0F = ([3, 7, 2, 1, 8] : List Byte).getD
      ((if 1 ≤ (reqMode s.req).toNat ∧ (reqMode s.req).toNat ≤ 5 then (reqMode s.req).toNat
        else if 1 ≤ s.ds.mode.toNat ∧ s.ds.mode.toNat ≤ 5 then s.ds.mode.toNat else 5) - 1) 0 ∧
    t.cmdByte 10 = ([0, 2, 6, 3, 7, 5] : List Byte).getD
      (if (reqSpeed s.req).toNat ≤ 5 then (reqSpeed s.req).toNat
        else if s.ds.speed.toNat ≤ 5 then s.ds.speed.toNat else 0) 0 ∧
    (if 1500 < (reqTemp s.req).toNat ∧ (reqTemp s.req).toNat < 3200 then
      t.cmdByte 9 = 0x6F - BitVec.ofNat 8 ((reqTemp s.req).toNat / 100) ∧
        rbHalf t.cmd = decide (49 ≤ (reqTemp s.req).toNat % 100)
    else t.cmdByte 9 = 0x6F - s.ds.setptInt ∧ rbHalf t.cmd = (s.cmdByte 11).getLsbD 1)

/-- A request with every field unchanged encodes the values of DS, the half-degree bit excepted (R152). -/
def Obligations.FallbackProperty : Prop :=
  ∀ s : State, s.req = 0x3F700000 → 1 ≤ s.ds.mode.toNat ∧ s.ds.mode.toNat ≤ 5 → s.ds.speed.toNat ≤ 5 →
    ∃ t, exec .encode s = .next t ∧
      rbPower t.cmd = s.ds.power ∧ rbEco t.cmd = s.ds.eco ∧ rbTurbo t.cmd = s.ds.turbo ∧
      rbMode t.cmd = some s.ds.mode.toNat ∧ rbSpeed t.cmd = some s.ds.speed.toNat ∧
      rbTint t.cmd = s.ds.setptInt ∧ rbHalf t.cmd = rbHalf s.cmd

/-- Encoding twice gives the same frame; an in-range temperature makes it independent of earlier requests
(40_encoder.md R140, 40_encoder.md R149, 30_encoding.md R100). -/
def Obligations.RepeatedApplyAgrees : Prop :=
  ∀ (req req' : Word) (ds ds' : DeviceState) (f : Vector Byte Config.kCmdLen),
    encodeFrame req ds (encodeFrame req ds f) = encodeFrame req ds f ∧
    (1500 < (reqTemp req).toNat → (reqTemp req).toNat < 3200 →
      encodeFrame req ds (encodeFrame req' ds' f) = encodeFrame req ds f)

/-- XORFOLD is the XOR of the bytes in the range, 0x00 on an empty range, in any order (R170). -/
def Obligations.XorFoldMeaning : Prop :=
  (∀ (buf : List Byte) (a b : Nat), b < a → xorFold buf a b = 0x00) ∧
  (∀ (buf : List Byte) (a : Nat) (h : a < buf.length), xorFold buf a a = buf[a]) ∧
  (∀ (buf : List Byte) (a b : Nat) (h : b + 1 < buf.length), a ≤ b →
    xorFold buf a (b + 1) = xorFold buf a b ^^^ buf[b + 1]) ∧
  (∀ buf buf' : List Byte, buf.Perm buf' →
    xorFold buf 0 (buf.length - 1) = xorFold buf' 0 (buf'.length - 1)) ∧
  xorFold [0x04, 0x03, 0x59, 0x05, 0x02] 0 4 = 0x59

/-- XORFOLD writes the fold of CMD[0..33] to CMD[34] and nothing else (41_checksum.md R171, 41_checksum.md R170).
-/
def Obligations.ChecksumGenerator : Prop :=
  ∀ s : State, exec .xorfold s = .next { s with cmd := s.cmd.setIfInBounds 34 (xorFold s.cmd.toList 0 33) }

/-- After ENCODE the checksum holds until the next ENCODE, and detects any change of one byte (R172). -/
def Obligations.ChecksumProperty : Prop :=
  (∀ s : State, ∃ t, exec .encode s = .next t ∧
    xorFold t.cmd.toList 0 33 = t.cmdByte 34 ∧ xorFold t.cmd.toList 0 34 = 0x00 ∧
    (∀ (i : Nat) (v : Byte), i ≤ 33 → v ≠ t.cmdByte i → xorFold (t.cmd.toList.set i v) 0 33 ≠ t.cmdByte 34) ∧
    (∀ (i j : Nat) (m : Byte), i ≤ 33 → j ≤ 33 → i ≠ j →
      xorFold ((t.cmd.toList.set i (t.cmdByte i ^^^ m)).set j (t.cmdByte j ^^^ m)) 0 33 = t.cmdByte 34)) ∧
  (∀ s : State, IndexInRange s → s.ports.rst = false → ¬ (s.seqState = .idle ∧ hostOp s.ports = 1) →
    checksumOk s → ∃ t, step s = .next t ∧ checksumOk t ∧ xorFold t.cmd.toList 0 34 = 0x00)

/-- On a valid frame DECODE commits every DS field, T_LAST_POLL, LAST_VALID, UPDATED and DONE together (R180, R183,
R184, R185, R186, R187, R188, R189). -/
def Obligations.DecodeValidReply : Prop :=
  (∀ s : State, s.seqState = .decode → s.rxByte 0 = 0xBB → s.rxByte 1 = 0x01 →
    exec .decode s = .next { s with
      ds :=
        { power := (s.rxByte 7).getLsbD 4
          eco := (s.rxByte 7).getLsbD 6
          turbo := (s.rxByte 7).getLsbD 7
          mode :=
            if 1 ≤ (s.rxByte 7).toNat % 16 ∧ (s.rxByte 7).toNat % 16 ≤ 5 then
              BitVec.ofNat 3 ((s.rxByte 7).toNat % 16)
            else 5
          speed :=
            if s.rxByte 8 &&& 0xF0 = 0x80 then 0 else if s.rxByte 8 &&& 0xF0 = 0x90 then 1
            else if s.rxByte 8 &&& 0xF0 = 0xC0 then 2 else if s.rxByte 8 &&& 0xF0 = 0xA0 then 3
            else if s.rxByte 8 &&& 0xF0 = 0xD0 then 4 else if s.rxByte 8 &&& 0xF0 = 0xB0 then 5 else s.ds.speed
          setptInt := BitVec.ofNat 8 ((s.rxByte 8).toNat % 16 + 16)
          setptHalf := (s.rxByte 9).getLsbD 1
          rawRoom := s.rxByte 17, rawPipe := s.rxByte 30, rawOut := s.rxByte 36, rawOutpipe := s.rxByte 37 }
      tLastPoll := s.now, lastValid := true, evt := s.evt ||| 0b000011, seqState := .idle }) ∧
  (∀ s : State, s.seqState = .decode → ¬ (s.rxByte 0 = 0xBB ∧ s.rxByte 1 = 0x01) →
    exec .decode s = .next { s with lastValid := false, evt := s.evt ||| 0b000101, seqState := .idle })

/-- After NotAReply every DS bit, T_LAST_POLL, CMD, REQ and RXBUF are as before the DECODE cycle (R182). -/
def Obligations.DecodeNotAReply : Prop :=
  ∀ s : State, s.seqState = .decode → ¬ (s.rxByte 0 = 0xBB ∧ s.rxByte 1 = 0x01) → s.ports.rst = false →
    ∃ t, step s = .next t ∧ t.ds = s.ds ∧ t.tLastPoll = s.tLastPoll ∧ t.cmd = s.cmd ∧ t.rxbuf = s.rxbuf ∧
      (¬ (s.ports.hbWe ∧ hostReg s.ports = 1) → t.req = s.req) ∧ t.seqState = .idle ∧ t.lastValid = false ∧
      t.evt.getLsbD 2 = true ∧
      (hostOp s.ports = 0 → t.evt = (s.evt &&& ~~~ hostClears s.ports) ||| 0b000101)

/-- A valid partial frame decodes its missing offsets as 0x00 (R195). -/
def Obligations.PartialFrameDecodesZeros : Prop :=
  ∀ s : State, Inv s → s.seqState = .decode → s.rxByte 0 = 0xBB → s.rxByte 1 = 0x01 →
    2 ≤ s.rxCnt.toNat → s.rxCnt.toNat < 38 → ∃ t, exec .decode s = .next t ∧
      (s.rxCnt.toNat ≤ 7 → t.ds.power = false ∧ t.ds.eco = false ∧ t.ds.turbo = false ∧ t.ds.mode = 5) ∧
      (s.rxCnt.toNat ≤ 8 → t.ds.setptInt = 16 ∧ t.ds.speed = s.ds.speed) ∧
      (s.rxCnt.toNat ≤ 9 → t.ds.setptHalf = false) ∧
      (s.rxCnt.toNat ≤ 17 → t.ds.rawRoom = 0x00) ∧ (s.rxCnt.toNat ≤ 30 → t.ds.rawPipe = 0x00) ∧
      (s.rxCnt.toNat ≤ 36 → t.ds.rawOut = 0x00) ∧ t.ds.rawOutpipe = 0x00

/-- Encoding a full request and decoding a status frame with the same field values agree (42_decoder.md R194,
40_encoder.md R150, 40_encoder.md R142, 40_encoder.md R143, 40_encoder.md R144, 40_encoder.md R145, 40_encoder.md
R146, 40_encoder.md R147). -/
def Obligations.RoundTrip : Prop :=
  ∀ (s : State) (p e u : Bool) (m : BitVec 4) (v : BitVec 3) (temp : BitVec 16) (ds : DeviceState)
    (f : Vector Byte Config.kCmdLen),
    1 ≤ m.toNat ∧ m.toNat ≤ 5 → v.toNat ≤ 5 → 1500 < temp.toNat ∧ temp.toNat < 3200 → 16 ≤ temp.toNat / 100 →
    s.seqState = .decode → s.rxByte 0 = 0xBB → s.rxByte 1 = 0x01 →
    s.rxByte 7 = bitAt u 7 ||| bitAt e 6 ||| bitAt p 4 ||| m.setWidth 8 →
    s.rxByte 8 = ([0x80, 0x90, 0xC0, 0xA0, 0xD0, 0xB0] : List Byte).getD v.toNat 0
      ||| BitVec.ofNat 8 (temp.toNat / 100 - 16) →
    s.rxByte 9 = bitAt (decide (49 ≤ temp.toNat % 100)) 1 →
    ∃ t, exec .decode s = .next t ∧
      t.ds.power = p ∧ t.ds.eco = e ∧ t.ds.turbo = u ∧ t.ds.mode.toNat = m.toNat ∧ t.ds.speed = v ∧
      t.ds.setptInt.toNat = temp.toNat / 100 ∧ t.ds.setptHalf = decide (49 ≤ temp.toNat % 100) ∧
      presetOf t.ds.eco t.ds.turbo = (if e then 1 else if u then 2 else 0) ∧
      ∃ g, g = encodeFrame (packReq temp m v ((BitVec.ofBool p).setWidth 2) ((BitVec.ofBool e).setWidth 2)
          ((BitVec.ofBool u).setWidth 2)) ds f ∧
        rbPower g = p ∧ rbEco g = e ∧ rbTurbo g = u ∧ rbMode g = some m.toNat ∧ rbSpeed g = some v.toNat ∧
        rbTint g = t.ds.setptInt ∧ rbHalf g = t.ds.setptHalf

/-- TX_CMD_BYTE and TX_QRY_BYTE send the byte at TX_IDX; the last byte of a frame moves on (43_frame_sync.md R211,
43_frame_sync.md R213, 20_memory.md R85). wireTx, the record of the bytes sent, is the model's own (log 10). -/
def Obligations.TransmitByte : Prop :=
  (∀ s : State, s.seqState = .txCmd → s.txIdx.toNat < 34 →
    exec .txCmdByte s = .next { s with wireTx := s.wireTx ++ [s.cmdByte s.txIdx.toNat], txIdx := s.txIdx + 1 }) ∧
  (∀ s : State, s.seqState = .txCmd → s.txIdx = 34 →
    exec .txCmdByte s =
      .next { s with wireTx := s.wireTx ++ [s.cmdByte 34], txIdx := 0, setCnt := 0, seqState := .settle }) ∧
  (∀ s : State, s.seqState = .txQry → s.txIdx.toNat < 7 →
    exec .txQryByte s =
      .next { s with wireTx := s.wireTx ++ [Config.queryFrame s.txIdx.toNat], txIdx := s.txIdx + 1 }) ∧
  (∀ s : State, s.seqState = .txQry → s.txIdx = 7 →
    exec .txQryByte s =
      .next { s with wireTx := s.wireTx ++ [Config.queryFrame 7], txIdx := 0, tmoCnt := 0, seqState := .hunt })

/-- POLL_START clears TX_IDX, RX_CNT, REF_CNT and every byte of RXBUF, and nothing else (43_frame_sync.md R214). -/
def Obligations.PollStart : Prop :=
  ∀ s : State, exec .pollStart s =
    .next { s with txIdx := 0, rxCnt := 0, rxbuf := Vector.replicate 80 0x00, refCnt := 0 }

/-- HUNT stores only the start marker, ACC stores every byte at RX_CNT, each changing one byte of RXBUF
(43_frame_sync.md R216, 43_frame_sync.md R217, 20_memory.md R85). -/
def Obligations.ReceiveByte : Prop :=
  (∀ (s : State) (b : Byte), s.seqState = .hunt → b ≠ 0xBB → exec (.huntByte b) s = .next s) ∧
  (∀ s : State, s.seqState = .hunt → ∃ t, exec (.huntByte 0xBB) s = .next t ∧
    t = { s with rxbuf := t.rxbuf, rxCnt := 1, seqState := .acc } ∧
    ∀ i < 80, t.rxByte i = if i = 0 then 0xBB else s.rxByte i) ∧
  (∀ (s : State) (b : Byte), s.seqState = .acc → s.rxCnt.toNat < 80 → ∃ t, exec (.accByte b) s = .next t ∧
    t = { s with rxbuf := t.rxbuf, rxCnt := s.rxCnt + 1 } ∧
    ∀ i < 80, t.rxByte i = if i = s.rxCnt.toNat then b else s.rxByte i)

/-- CAPACITY_STOP ends the read at 80 bytes; TIMEOUT_TICK counts a tick and ends it at 500 with TIMEOUT
(43_frame_sync.md R218, 43_frame_sync.md R219). That CAPACITY_STOP tests HUNT too is log 23; the counter value 1023
is left out (log 17). -/
def Obligations.ReadEnd : Prop :=
  ∀ s : State, s.seqState = .hunt ∨ s.seqState = .acc →
    (s.rxCnt = 80 → exec .capacityStop s = .next { s with seqState := .decode }) ∧
    (s.rxCnt ≠ 80 → exec .capacityStop s = .next s) ∧
    (s.tmoCnt.toNat + 1 < 500 → exec .timeoutTick s = .next { s with tmoCnt := s.tmoCnt + 1 }) ∧
    (500 ≤ s.tmoCnt.toNat + 1 → s.tmoCnt.toNat < 1023 → exec .timeoutTick s =
      .next { s with tmoCnt := s.tmoCnt + 1, evt := s.evt ||| 0b100000, seqState := .decode })

/-- SETTLE_TICK counts a tick, and at 700 starts the post-command poll (43_frame_sync.md R221, 43_frame_sync.md
R214). The counter value 1023, which no run reaches, is left out (log 17). -/
def Obligations.SettleTick : Prop :=
  ∀ s : State, s.seqState = .settle →
    (s.setCnt.toNat + 1 < 700 → exec .settleTick s = .next { s with setCnt := s.setCnt + 1 }) ∧
    (700 ≤ s.setCnt.toNat + 1 → s.setCnt.toNat < 1023 → exec .settleTick s =
      .next { s with
        setCnt := s.setCnt + 1, txIdx := 0, rxCnt := 0, rxbuf := Vector.replicate 80 0x00, refCnt := 0
        seqState := .txQry })

/-- PERIODIC, in IDLE with a refresh due, performs POLL_START with ORIGIN PERIODIC and moves to TX_QRY (R255). -/
def Obligations.PeriodicStart : Prop :=
  ∀ s : State, s.seqState = .idle → 30000 ≤ s.refCnt.toNat → exec .periodic s =
    .next { s with
      txIdx := 0, rxCnt := 0, rxbuf := Vector.replicate 80 0x00, refCnt := 0, origin := .periodic
      seqState := .txQry }

/-- Model's choice: an internal operation outside its STATE changes nothing; an index past an array faults
(30_encoding.md R119, 43_frame_sync.md R217, 10_state.md R65). The model's choices are logs 7 and 5. -/
def Obligations.InternalTriggersAndIndexFaults : Prop :=
  (∀ s : State, s.seqState ≠ .decode → exec .decode s = .next s) ∧
  (∀ s : State, s.seqState ≠ .txCmd → exec .txCmdByte s = .next s) ∧
  (∀ s : State, s.seqState ≠ .txQry → exec .txQryByte s = .next s) ∧
  (∀ (s : State) (b : Byte), s.seqState ≠ .hunt → exec (.huntByte b) s = .next s) ∧
  (∀ (s : State) (b : Byte), s.seqState ≠ .acc → exec (.accByte b) s = .next s) ∧
  (∀ s : State, s.seqState ≠ .hunt → s.seqState ≠ .acc →
    exec .capacityStop s = .next s ∧ exec .timeoutTick s = .next s) ∧
  (∀ s : State, s.seqState ≠ .settle → exec .settleTick s = .next s) ∧
  (∀ s : State, s.seqState ≠ .idle ∨ s.refCnt.toNat < 30000 → exec .periodic s = .next s) ∧
  (∀ (s : State) (b : Byte), s.seqState = .acc → 80 ≤ s.rxCnt.toNat →
    exec (.accByte b) s = .fault .rxIndexBeyondBuffer) ∧
  (∀ s : State, s.seqState = .txCmd → 35 ≤ s.txIdx.toNat → exec .txCmdByte s = .fault .txIndexBeyondFrame) ∧
  (∀ s : State, s.seqState = .txQry → 8 ≤ s.txIdx.toNat → exec .txQryByte s = .fault .txIndexBeyondFrame)

/-- A cycle runs exec of the decoded bus transaction, then the internal operations, then finishes (the order is the
model's, log 8) (44_sequencer.md R254, 00_scope.md R16, 45_host_bus.md R270, 70_reset_and_hazards.md R330,
44_sequencer.md R241). The order of the operations is the model's choice (log 8): R254 and R16 have all writes of a
cycle land at once. -/
def Obligations.StepRunsDecodedTransaction : Prop :=
  (∀ (s t u : State) (i : Instr), s.ports.rst = false → decodeTxn s.ports.txn = i → exec i s = .next t →
    runOps (internalOps s s.ports) t = .next u → step s = .next (finishCycle s s.ports u)) ∧
  (∀ s t : State, s.ports.rst = true → exec .startup s = .next t → step s = .next (finishCycle s s.ports t))

/-- One step of the machine is STEP of R254: every register's next value from pre-edge values (44_sequencer.md
R254, 00_scope.md R16). Both sides also agree on inputs, cycle, out and wireTx, the model's own fields (logs 1, 9
and 10). At the counter value 1023, which no run reaches, the wrap of the 10-bit sum is the model's choice (log
17). -/
def Obligations.StepIsSpecStep : Prop :=
  ∀ s : State, IndexInRange s → step s = .next (stepRule s s.ports)

/-- The sequencer moves exactly as the transition table says (44_sequencer.md R240). At the counter value 1023,
which no run reaches, the wrap of the 10-bit sum is the model's choice (log 17). -/
def Obligations.TransitionsOfTheTable : Prop :=
  ∀ (s : State) (p : Inputs), p = s.ports → IndexInRange s → p.rst = false → ∃ t, step s = .next t ∧
    (s.seqState = .idle → hostOp p = 1 → t.seqState = .txCmd) ∧
    (s.seqState = .idle → hostOp p = 2 → t.seqState = .txQry) ∧
    (s.seqState = .idle → hostOp p ≠ 1 → hostOp p ≠ 2 → 30000 ≤ s.refCnt.toNat → t.seqState = .txQry) ∧
    (s.seqState = .idle → hostOp p ≠ 1 → hostOp p ≠ 2 → s.refCnt.toNat < 30000 → t.seqState = .idle) ∧
    (s.seqState = .txCmd → p.txReady = true ∧ s.txIdx = 34 → t.seqState = .settle) ∧
    (s.seqState = .txCmd → ¬ (p.txReady = true ∧ s.txIdx = 34) → t.seqState = .txCmd) ∧
    (s.seqState = .settle → p.tickMs = true ∧ 700 ≤ (s.setCnt + 1).toNat → t.seqState = .txQry) ∧
    (s.seqState = .settle → ¬ (p.tickMs = true ∧ 700 ≤ (s.setCnt + 1).toNat) → t.seqState = .settle) ∧
    (s.seqState = .txQry → p.txReady = true ∧ s.txIdx = 7 → t.seqState = .hunt) ∧
    (s.seqState = .txQry → ¬ (p.txReady = true ∧ s.txIdx = 7) → t.seqState = .txQry) ∧
    (s.seqState = .hunt ∨ s.seqState = .acc → readEndsNow s p = true → t.seqState = .decode) ∧
    (s.seqState = .hunt → readEndsNow s p = false → p.rxValid = true ∧ p.rxData = 0xBB → t.seqState = .acc) ∧
    (s.seqState = .hunt → readEndsNow s p = false → ¬ (p.rxValid = true ∧ p.rxData = 0xBB) → t.seqState = .hunt) ∧
    (s.seqState = .acc → readEndsNow s p = false → t.seqState = .acc) ∧
    (s.seqState = .decode → t.seqState = .idle)

/-- One HUNT or ACC cycle takes the byte, then the capacity test, then the timeout, as R220 orders them
(43_frame_sync.md R220). At the counter value 1023, which no run reaches, the wrap of the 10-bit sum is the model's
choice (log 17). -/
def Obligations.ReadCycleInFull : Prop :=
  ∀ (s : State) (p : Inputs), p = s.ports → IndexInRange s → s.seqState = .hunt ∨ s.seqState = .acc → p.rst = false →
    ∃ t, step s = .next t ∧ t.rxbuf = (readCycle s p).rxbuf ∧ t.rxCnt = (readCycle s p).cnt ∧
      t.tmoCnt = (readCycle s p).tmoCnt ∧ t.seqState = (readCycle s p).next ∧
      t.evt.getLsbD 5 = ((readCycle s p).tmo || (s.evt.getLsbD 5 && !hostWritesBit p 3 5))

/-- Each EVT bit is set exactly by its cause, stays until the host clears it, and a cause wins over a clear
(60_exceptions.md R300, 60_exceptions.md R301, 43_frame_sync.md R219). At the counter value 1023, which no run
reaches, the wrap of the 10-bit sum is the model's choice (log 17). -/
def Obligations.EventBitsExact : Prop :=
  (∀ (s : State) (p : Inputs), p = s.ports → IndexInRange s → p.rst = false → ∃ t, step s = .next t ∧
    t.evt.getLsbD 0 = (decide (s.seqState = .decode) || (s.evt.getLsbD 0 && !hostWritesBit p 3 0)) ∧
    t.evt.getLsbD 1 = (decide (s.seqState = .decode ∧ s.rxByte 0 = 0xBB ∧ s.rxByte 1 = 0x01)
      || (s.evt.getLsbD 1 && !hostWritesBit p 3 1)) ∧
    t.evt.getLsbD 2 = (decide (s.seqState = .decode ∧ ¬ (s.rxByte 0 = 0xBB ∧ s.rxByte 1 = 0x01))
      || (s.evt.getLsbD 2 && !hostWritesBit p 3 2)) ∧
    t.evt.getLsbD 3 = (decide (s.seqState ≠ .idle ∧ (hostOp p = 1 ∨ hostOp p = 2))
      || (s.evt.getLsbD 3 && !hostWritesBit p 3 3)) ∧
    t.evt.getLsbD 4 = (decide (hostOp p = 3) || (s.evt.getLsbD 4 && !hostWritesBit p 3 4)) ∧
    t.evt.getLsbD 5 = (decide ((s.seqState = .hunt ∨ s.seqState = .acc) ∧ p.tickMs = true ∧
      500 ≤ (s.tmoCnt + 1).toNat) || (s.evt.getLsbD 5 && !hostWritesBit p 3 5))) ∧
  (∀ (s : State) (p : Inputs) (e : BitVec 6), IndexInRange s → p.rst = false → ∃ t u, clockEdge p s = .next t ∧
    clockEdge p { s with evt := e } = .next u ∧ { u with evt := t.evt, out := t.out } = t)

/-- tx_valid, tx_data and rx_ready follow STATE, and irq is (EVT & IEN) ≠ 0 of the registers at the cycle's start
(R210, R302). -/
def Obligations.OutputsOfTheCycle : Prop :=
  (∀ s : State, IndexInRange s → s.ports.rst = false → ∃ t, step s = .next t ∧
    t.out.txValid = decide (s.seqState = .txCmd ∨ s.seqState = .txQry) ∧
    t.out.txData =
      (match s.seqState with
        | .txCmd => s.cmdByte s.txIdx.toNat
        | .txQry => Config.queryFrame s.txIdx.toNat
        | _ => 0x00) ∧
    t.out.rxReady = decide (s.seqState = .hunt ∨ s.seqState = .acc) ∧
    t.out.irq = decide (s.evt &&& s.ien ≠ 0) ∧ (s.ien = 0 → t.out.irq = false)) ∧
  (∀ s : State, s.ports.rst = true → ∃ t, step s = .next t ∧ t.out.irq = false)

/-- NOW counts every tick modulo 2^32; REF_CNT counts to 30000 and is cleared where TX_QRY is entered (R48, R49).
-/
def Obligations.FreeRunningCounters : Prop :=
  (∀ s : State, IndexInRange s → s.ports.rst = false → ∃ t, step s = .next t ∧
    t.now.toNat = (if s.ports.tickMs then (s.now.toNat + 1) % 2 ^ 32 else s.now.toNat) ∧
    t.refCnt.toNat =
      (if s.seqState ≠ .txQry ∧ t.seqState = .txQry then 0
       else if s.ports.tickMs ∧ s.refCnt.toNat < 30000 then s.refCnt.toNat + 1 else s.refCnt.toNat)) ∧
  (∀ s : State, s.refDue = decide (30000 ≤ s.refCnt.toNat)) ∧ State.reset.refCnt = 0 ∧ State.reset.now = 0

/-- Each register but STATE, EVT, REF_CNT and NOW changes only in the cycles the spec names for it (10_state.md
R39, 10_state.md R40, 10_state.md R41, 10_state.md R42, 10_state.md R43, 10_state.md R45, 10_state.md R46,
10_state.md R47, 10_state.md R50, 10_state.md R54, 10_state.md R55, 45_host_bus.md R283). -/
def Obligations.RegistersKeepTheirValue : Prop :=
  ∀ (s : State) (p : Inputs), p = s.ports → IndexInRange s → p.rst = false → ∃ t, step s = .next t ∧
    (¬ (s.seqState = .decode ∧ s.rxByte 0 = 0xBB ∧ s.rxByte 1 = 0x01) → t.ds = s.ds ∧ t.tLastPoll = s.tLastPoll) ∧
    (s.seqState ≠ .decode → t.lastValid = s.lastValid) ∧
    (¬ (s.seqState = .idle ∧ hostOp p = 1) → t.cmd = s.cmd ∧ t.tLastCmd = s.tLastCmd) ∧
    (¬ (p.hbWe ∧ hostReg p = 1) → t.req = s.req) ∧ (¬ (p.hbWe ∧ hostReg p = 4) → t.ien = s.ien) ∧
    (¬ (s.seqState = .idle ∧ t.seqState ≠ .idle) → t.origin = s.origin) ∧
    (s.seqState ≠ .hunt → s.seqState ≠ .acc → ¬ (s.seqState ≠ .txQry ∧ t.seqState = .txQry) →
      t.rxbuf = s.rxbuf ∧ t.rxCnt = s.rxCnt) ∧
    (s.seqState ≠ .hunt → s.seqState ≠ .acc → ¬ (s.seqState = .txQry ∧ t.seqState = .hunt) → t.tmoCnt = s.tmoCnt) ∧
    (s.seqState ≠ .settle → ¬ (s.seqState = .txCmd ∧ t.seqState = .settle) → t.setCnt = s.setCnt) ∧
    (s.seqState ≠ .txCmd → s.seqState ≠ .txQry → t.seqState ≠ .txCmd → t.seqState ≠ .txQry → t.txIdx = s.txIdx)

/-- Once an exchange runs, no host access changes its course (44_sequencer.md R250, 44_sequencer.md R253). -/
def Obligations.HostCannotDisturbExchange : Prop :=
  ∀ (s : State) (p : Inputs) (we : Bool) (addr : BitVec 8) (data : Word), IndexInRange s → s.seqState ≠ .idle →
    p.rst = false → ∃ t u, clockEdge p s = .next t ∧ clockEdge (p.withBus we addr data) s = .next u ∧
      { u with req := t.req, ien := t.ien, evt := t.evt, out := { u.out with hbRdata := t.out.hbRdata } } = t

/-- Every step keeps the invariants of R65 (R65). -/
def Obligations.InvKept : Prop :=
  ∀ s t : State, Inv s → step s = .next t → Inv t

/-- From a state within the invariants, a run of any length over any inputs never stops (60_exceptions.md R305,
10_state.md R65). The faults that do not occur are the model's own (log 5). -/
def Obligations.NoRunStops : Prop :=
  ∀ (n : Nat) (s : State), Inv s → ∃ t, runCycles n s = .next t ∧ Inv t

/-- Every step keeps the template bytes and bits of CMD, whatever was applied (10_state.md R40, 30_encoding.md
R100, 70_reset_and_hazards.md R333). -/
def Obligations.TemplateKeptByStep : Prop :=
  (∀ s t : State, IndexInRange s → TemplateKept s → step s = .next t → TemplateKept t) ∧
  (∀ s t : State, TemplateKept s → exec .encode s = .next t →
    t.cmdByte 34 = xorFold ((List.range 35).map Config.cmdTemplate) 0 6
      ^^^ xorFold ((List.range 35).map Config.cmdTemplate) 12 33
      ^^^ t.cmdByte 7 ^^^ t.cmdByte 8 ^^^ t.cmdByte 9 ^^^ t.cmdByte 10 ^^^ t.cmdByte 11)

/-- In TX_CMD the frame in CMD always carries its own checksum (41_checksum.md R173, 40_encoder.md R148,
20_memory.md R92). -/
def Obligations.TransmittedFrameHasChecksum : Prop :=
  ∀ s t : State, IndexInRange s → (s.seqState = .txCmd → checksumOk s) → step s = .next t →
    (t.seqState = .txCmd → checksumOk t)

/-- With tx_ready held at 1 the command frame goes out in 35 cycles and the query frame in 8, in order
(43_frame_sync.md R211, 43_frame_sync.md R213, 20_memory.md R94, 20_memory.md R81). wireTx and the listed samples
are the model's own (logs 10 and 1). -/
def Obligations.WholeFramesAreSent : Prop :=
  (∀ s : State, s.seqState = .txCmd → s.txIdx = 0 →
    SamplesMeet 35 s (fun p => p.rst = false ∧ p.txReady = true) → ∃ t, runCycles 35 s = .next t ∧
      t.wireTx = s.wireTx ++ s.cmd.toList ∧ t.cmd = s.cmd ∧ t.seqState = .settle ∧ t.setCnt = 0 ∧ t.txIdx = 0) ∧
  (∀ s : State, s.seqState = .txQry → s.txIdx = 0 →
    SamplesMeet 8 s (fun p => p.rst = false ∧ p.txReady = true) → ∃ t, runCycles 8 s = .next t ∧
      t.wireTx = s.wireTx ++ (List.range 8).map Config.queryFrame ∧ t.seqState = .hunt ∧ t.tmoCnt = 0 ∧
      t.txIdx = 0 ∧ t.rxCnt = s.rxCnt ∧ t.rxbuf = s.rxbuf)

/-- While tx_ready stays 0 the block stays in its transmit state, sends nothing and raises nothing of its own
(43_frame_sync.md R212, 70_reset_and_hazards.md R344). wireTx and the listed samples are the model's own (logs 10
and 1). -/
def Obligations.TransmitStall : Prop :=
  ∀ (n : Nat) (s : State), s.seqState = .txCmd ∨ s.seqState = .txQry →
    SamplesMeet n s (fun p => p.rst = false ∧ p.txReady = false) → ∃ t, runCycles n s = .next t ∧
      t.seqState = s.seqState ∧ t.txIdx = s.txIdx ∧ t.wireTx = s.wireTx ∧ t.cmd = s.cmd ∧ t.busy = true ∧
      t.evt &&& 0b100111 &&& ~~~s.evt = 0

/-- SETTLE lasts exactly until the 700th counted tick, however the ticks are spaced, then the poll starts
(43_frame_sync.md R221, 43_frame_sync.md R222, 10_state.md R47). wireTx and the listed samples are the model's own
(logs 10 and 1). -/
def Obligations.SettleLastsItsTicks : Prop :=
  ∀ (n : Nat) (s : State), s.seqState = .settle → SamplesMeet n s (fun p => p.rst = false) →
    (s.setCnt.toNat + ticksIn n s < 700 → ∃ t, runCycles n s = .next t ∧ t.seqState = .settle ∧
      t.setCnt.toNat = s.setCnt.toNat + ticksIn n s ∧ t.wireTx = s.wireTx) ∧
    (∀ m, n = m + 1 → s.setCnt.toNat + ticksIn m s = 699 → ticksIn n s = ticksIn m s + 1 →
      ∃ t, runCycles n s = .next t ∧ t.seqState = .txQry ∧ t.setCnt = 700 ∧ t.refCnt = 0 ∧ t.rxCnt = 0 ∧
        t.txIdx = 0 ∧ t.rxbuf = Vector.replicate 80 0x00 ∧ t.wireTx = s.wireTx)

/-- A read that sees no byte ends at the 500th tick with TIMEOUT and then with DONE and NOTREPLY (43_frame_sync.md
R219, 42_decoder.md R182, 44_sequencer.md R249). The listed samples are the model's own (log 1). -/
def Obligations.SilentReadTimesOut : Prop :=
  ∀ (m : Nat) (s : State), Inv s → s.seqState = .hunt →
    SamplesMeet (m + 2) s (fun p => p.rst = false ∧ p.rxValid = false) →
    s.tmoCnt.toNat + ticksIn m s = 499 → ticksIn (m + 1) s = ticksIn m s + 1 →
    ∃ t u, runCycles (m + 1) s = .next t ∧ t.seqState = .decode ∧ t.tmoCnt = 500 ∧ t.evt.getLsbD 5 = true ∧
      runCycles (m + 2) s = .next u ∧ u.seqState = .idle ∧ u.lastValid = false ∧ u.ds = s.ds ∧
      u.evt.getLsbD 0 = true ∧ u.evt.getLsbD 2 = true

/-- Eighty bytes that start with the marker, offered one a cycle, fill RXBUF in order and end the read
(43_frame_sync.md R216, 43_frame_sync.md R217, 43_frame_sync.md R218, 20_memory.md R81). The listed samples are the
model's own (log 1). -/
def Obligations.FullReplyIsCollected : Prop :=
  ∀ (s : State) (bytes : List Byte), s.seqState = .hunt → bytes.length = 80 → bytes.head? = some 0xBB →
    SamplesMeet 80 s (fun p => p.rst = false ∧ p.rxValid = true) →
    (s.inputs.take 80).map (fun p => p.rxData) = bytes → s.tmoCnt.toNat + ticksIn 80 s < 500 →
    ∃ t, runCycles 80 s = .next t ∧ t.seqState = .decode ∧ t.rxbuf.toList = bytes ∧ t.rxCnt = 80 ∧ t.ds = s.ds

end Statements
end

