-- ==== Sys2Proof/Laws/Decode.lean ====
section
/-! SUPPORT. The fields of the transaction words the encoder and the ports build (30_encoding.md R115). -/

namespace Sys2Proof

/-- A bit of a word that holds one field. -/
theorem getLsbD_txnField {k : Nat} (v : BitVec k) (n i : Nat) :
    (txnField v n).getLsbD i = (decide (i < 41) && decide (n ≤ i) && v.getLsbD (i - n)) := by
  by_cases h : i < n <;> by_cases h2 : i < 41 <;> simp [txnField, h, h2]
  omega

/-! ## Words with a split address: WE, word index, lane, data -/

@[simp] theorem txnWe_txnWord (we : Bool) (k : BitVec 6) (lane : BitVec 2) (data : Word) :
    txnWe (txnWord we k lane data) = we := by
  simp only [txnWe, txnWord, BitVec.getLsbD_or, getLsbD_txnField]
  simp

@[simp] theorem txnIndex_txnWord (we : Bool) (k : BitVec 6) (lane : BitVec 2) (data : Word) :
    txnIndex (txnWord we k lane data) = k.toNat := by
  unfold txnIndex txnWord
  congr 1
  apply BitVec.eq_of_getLsbD_eq
  intro i hi
  simp only [BitVec.getLsbD_extractLsb', BitVec.getLsbD_or, getLsbD_txnField]
  interval_cases i <;> simp

@[simp] theorem txnLane_txnWord (we : Bool) (k : BitVec 6) (lane : BitVec 2) (data : Word) :
    txnLane (txnWord we k lane data) = lane := by
  apply BitVec.eq_of_getLsbD_eq
  intro i hi
  simp only [txnLane, txnWord, BitVec.getLsbD_extractLsb', BitVec.getLsbD_or, getLsbD_txnField]
  interval_cases i <;> simp

@[simp] theorem txnData_txnWord (we : Bool) (k : BitVec 6) (lane : BitVec 2) (data : Word) :
    txnData (txnWord we k lane data) = data := by
  apply BitVec.eq_of_getLsbD_eq
  intro i hi
  simp only [txnData, txnWord, BitVec.getLsbD_extractLsb', BitVec.getLsbD_or, getLsbD_txnField]
  have h1 : ¬ 32 ≤ i := by omega
  have h2 : ¬ 34 ≤ i := by omega
  have h3 : ¬ 40 ≤ i := by omega
  have h4 : i < 41 := by omega
  simp [*]

/-! ## CTRL writes: WE, word index 0, lane, OP below the ignored bits -/

@[simp] theorem txnWe_ctrlWord (op lane : BitVec 2) (rest : BitVec 30) : txnWe (ctrlWord op lane rest) = true := by
  simp only [txnWe, ctrlWord, BitVec.getLsbD_or, getLsbD_txnField]
  simp

@[simp] theorem txnIndex_ctrlWord (op lane : BitVec 2) (rest : BitVec 30) : txnIndex (ctrlWord op lane rest) = 0 := by
  have h : (ctrlWord op lane rest).extractLsb' 34 6 = 0 := by
    apply BitVec.eq_of_getLsbD_eq
    intro i hi
    simp only [ctrlWord, BitVec.getLsbD_extractLsb', BitVec.getLsbD_or, getLsbD_txnField]
    interval_cases i <;> simp
  unfold txnIndex
  rw [h]
  rfl

@[simp] theorem txnLane_ctrlWord (op lane : BitVec 2) (rest : BitVec 30) : txnLane (ctrlWord op lane rest) = lane := by
  apply BitVec.eq_of_getLsbD_eq
  intro i hi
  simp only [txnLane, ctrlWord, BitVec.getLsbD_extractLsb', BitVec.getLsbD_or, getLsbD_txnField]
  interval_cases i <;> simp

@[simp] theorem txnOp_ctrlWord (op lane : BitVec 2) (rest : BitVec 30) : txnOp (ctrlWord op lane rest) = op := by
  apply BitVec.eq_of_getLsbD_eq
  intro i hi
  simp only [txnOp, ctrlWord, BitVec.getLsbD_extractLsb', BitVec.getLsbD_or, getLsbD_txnField]
  interval_cases i <;> simp

@[simp] theorem txnRest_ctrlWord (op lane : BitVec 2) (rest : BitVec 30) : txnRest (ctrlWord op lane rest) = rest := by
  apply BitVec.eq_of_getLsbD_eq
  intro i hi
  simp only [txnRest, ctrlWord, BitVec.getLsbD_extractLsb', BitVec.getLsbD_or, getLsbD_txnField]
  have h1 : ¬ 32 ≤ 2 + i := by omega
  have h2 : ¬ 40 ≤ 2 + i := by omega
  have h3 : 2 + i < 41 := by omega
  have h4 : ¬ 2 + i < 2 := by omega
  simp [*]

/-! ## Unmapped ranges: the word index is one of the range's four or eight -/

@[simp] theorem txnWe_unmappedWord4 (we : Bool) (hi low : BitVec 4) (data : Word) :
    txnWe (unmappedWord4 we hi low data) = we := by
  simp only [txnWe, unmappedWord4, BitVec.getLsbD_or, getLsbD_txnField]
  simp

@[simp] theorem txnIndex_unmappedWord4 (we : Bool) (hi low : BitVec 4) (data : Word) :
    txnIndex (unmappedWord4 we hi low data) = (hi ++ low.extractLsb' 2 2).toNat := by
  unfold txnIndex unmappedWord4
  congr 1
  apply BitVec.eq_of_getLsbD_eq
  intro i h
  simp only [BitVec.getLsbD_extractLsb', BitVec.getLsbD_or, getLsbD_txnField, BitVec.getLsbD_append]
  interval_cases i <;> simp

@[simp] theorem txnLow4_unmappedWord4 (we : Bool) (hi low : BitVec 4) (data : Word) :
    txnLow4 (unmappedWord4 we hi low data) = low := by
  apply BitVec.eq_of_getLsbD_eq
  intro i h
  simp only [txnLow4, unmappedWord4, BitVec.getLsbD_extractLsb', BitVec.getLsbD_or, getLsbD_txnField]
  interval_cases i <;> simp

@[simp] theorem txnData_unmappedWord4 (we : Bool) (hi low : BitVec 4) (data : Word) :
    txnData (unmappedWord4 we hi low data) = data := by
  apply BitVec.eq_of_getLsbD_eq
  intro i h
  simp only [txnData, unmappedWord4, BitVec.getLsbD_extractLsb', BitVec.getLsbD_or, getLsbD_txnField]
  have h1 : ¬ 32 ≤ i := by omega
  have h2 : ¬ 36 ≤ i := by omega
  have h3 : ¬ 40 ≤ i := by omega
  have h4 : i < 41 := by omega
  simp [*]

@[simp] theorem txnWe_unmappedWord5 (we : Bool) (hi : BitVec 3) (low : BitVec 5) (data : Word) :
    txnWe (unmappedWord5 we hi low data) = we := by
  simp only [txnWe, unmappedWord5, BitVec.getLsbD_or, getLsbD_txnField]
  simp

@[simp] theorem txnIndex_unmappedWord5 (we : Bool) (hi : BitVec 3) (low : BitVec 5) (data : Word) :
    txnIndex (unmappedWord5 we hi low data) = (hi ++ low.extractLsb' 2 3).toNat := by
  unfold txnIndex unmappedWord5
  congr 1
  apply BitVec.eq_of_getLsbD_eq
  intro i h
  simp only [BitVec.getLsbD_extractLsb', BitVec.getLsbD_or, getLsbD_txnField, BitVec.getLsbD_append]
  interval_cases i <;> simp

@[simp] theorem txnLow5_unmappedWord5 (we : Bool) (hi : BitVec 3) (low : BitVec 5) (data : Word) :
    txnLow5 (unmappedWord5 we hi low data) = low := by
  apply BitVec.eq_of_getLsbD_eq
  intro i h
  simp only [txnLow5, unmappedWord5, BitVec.getLsbD_extractLsb', BitVec.getLsbD_or, getLsbD_txnField]
  interval_cases i <;> simp

@[simp] theorem txnData_unmappedWord5 (we : Bool) (hi : BitVec 3) (low : BitVec 5) (data : Word) :
    txnData (unmappedWord5 we hi low data) = data := by
  apply BitVec.eq_of_getLsbD_eq
  intro i h
  simp only [txnData, unmappedWord5, BitVec.getLsbD_extractLsb', BitVec.getLsbD_or, getLsbD_txnField]
  have h1 : ¬ 32 ≤ i := by omega
  have h2 : ¬ 37 ≤ i := by omega
  have h3 : ¬ 40 ≤ i := by omega
  have h4 : i < 41 := by omega
  simp [*]

/-! ## The transaction on the ports -/

namespace Machine

theorem txn_eq_fields (p : Inputs) :
    p.txn = txnField (BitVec.ofBool p.hbWe) 40 ||| txnField p.hbAddr 32 ||| txnField p.hbWdata 0 := by
  simp [Inputs.txn, txnField]

@[simp] theorem txnWe_txn (p : Inputs) : txnWe p.txn = p.hbWe := by
  simp only [txnWe, txn_eq_fields, BitVec.getLsbD_or, getLsbD_txnField]
  simp

@[simp] theorem txnIndex_txn (p : Inputs) : txnIndex p.txn = hostReg p := by
  unfold txnIndex hostReg
  congr 1
  apply BitVec.eq_of_getLsbD_eq
  intro i hi
  simp only [txn_eq_fields, BitVec.getLsbD_extractLsb', BitVec.getLsbD_or, getLsbD_txnField]
  interval_cases i <;> simp

@[simp] theorem txnData_txn (p : Inputs) : txnData p.txn = p.hbWdata := by
  apply BitVec.eq_of_getLsbD_eq
  intro i hi
  simp only [txnData, txn_eq_fields, BitVec.getLsbD_extractLsb', BitVec.getLsbD_or, getLsbD_txnField]
  have h2 : ¬ 32 ≤ i := by omega
  have h3 : ¬ 40 ≤ i := by omega
  have h4 : i < 41 := by omega
  simp [*]

/-- OP stands in the low bits of the data (R114). -/
theorem txnOp_eq (w : Txn) : txnOp w = (txnData w).extractLsb' 0 2 := by
  apply BitVec.eq_of_getLsbD_eq
  intro i hi
  simp only [txnOp, txnData, BitVec.getLsbD_extractLsb']
  interval_cases i <;> simp

end Machine

end Sys2Proof
end

