-- ==== Sys2Proof/Laws/State.lean ====
section
/-! SUPPORT. One lemma for each field of the state and each named update: what the update leaves in the field. -/

namespace Sys2Proof.Machine

/-! ## State.raise -/

@[simp] theorem State.raise_ds (s : State) (e : Event) : (s.raise e).ds = s.ds := rfl
@[simp] theorem State.raise_tLastPoll (s : State) (e : Event) : (s.raise e).tLastPoll = s.tLastPoll := rfl
@[simp] theorem State.raise_tLastCmd (s : State) (e : Event) : (s.raise e).tLastCmd = s.tLastCmd := rfl
@[simp] theorem State.raise_cmd (s : State) (e : Event) : (s.raise e).cmd = s.cmd := rfl
@[simp] theorem State.raise_rxbuf (s : State) (e : Event) : (s.raise e).rxbuf = s.rxbuf := rfl
@[simp] theorem State.raise_rxCnt (s : State) (e : Event) : (s.raise e).rxCnt = s.rxCnt := rfl
@[simp] theorem State.raise_txIdx (s : State) (e : Event) : (s.raise e).txIdx = s.txIdx := rfl
@[simp] theorem State.raise_seqState (s : State) (e : Event) : (s.raise e).seqState = s.seqState := rfl
@[simp] theorem State.raise_origin (s : State) (e : Event) : (s.raise e).origin = s.origin := rfl
@[simp] theorem State.raise_tmoCnt (s : State) (e : Event) : (s.raise e).tmoCnt = s.tmoCnt := rfl
@[simp] theorem State.raise_setCnt (s : State) (e : Event) : (s.raise e).setCnt = s.setCnt := rfl
@[simp] theorem State.raise_refCnt (s : State) (e : Event) : (s.raise e).refCnt = s.refCnt := rfl
@[simp] theorem State.raise_now (s : State) (e : Event) : (s.raise e).now = s.now := rfl
@[simp] theorem State.raise_req (s : State) (e : Event) : (s.raise e).req = s.req := rfl
@[simp] theorem State.raise_evt (s : State) (e : Event) : (s.raise e).evt = s.evt ||| eventBit e := rfl
@[simp] theorem State.raise_ien (s : State) (e : Event) : (s.raise e).ien = s.ien := rfl
@[simp] theorem State.raise_lastValid (s : State) (e : Event) : (s.raise e).lastValid = s.lastValid := rfl
@[simp] theorem State.raise_inputs (s : State) (e : Event) : (s.raise e).inputs = s.inputs := rfl
@[simp] theorem State.raise_cycle (s : State) (e : Event) : (s.raise e).cycle = s.cycle := rfl
@[simp] theorem State.raise_out (s : State) (e : Event) : (s.raise e).out = s.out := rfl
@[simp] theorem State.raise_wireTx (s : State) (e : Event) : (s.raise e).wireTx = s.wireTx := rfl

/-! ## State.clearEvents -/

@[simp] theorem State.clearEvents_ds (s : State) (clr : BitVec 6) : (s.clearEvents clr).ds = s.ds := rfl
@[simp] theorem State.clearEvents_tLastPoll (s : State) (clr : BitVec 6) :
    (s.clearEvents clr).tLastPoll = s.tLastPoll := rfl
@[simp] theorem State.clearEvents_tLastCmd (s : State) (clr : BitVec 6) :
    (s.clearEvents clr).tLastCmd = s.tLastCmd := rfl
@[simp] theorem State.clearEvents_cmd (s : State) (clr : BitVec 6) : (s.clearEvents clr).cmd = s.cmd := rfl
@[simp] theorem State.clearEvents_rxbuf (s : State) (clr : BitVec 6) : (s.clearEvents clr).rxbuf = s.rxbuf := rfl
@[simp] theorem State.clearEvents_rxCnt (s : State) (clr : BitVec 6) : (s.clearEvents clr).rxCnt = s.rxCnt := rfl
@[simp] theorem State.clearEvents_txIdx (s : State) (clr : BitVec 6) : (s.clearEvents clr).txIdx = s.txIdx := rfl
@[simp] theorem State.clearEvents_seqState (s : State) (clr : BitVec 6) :
    (s.clearEvents clr).seqState = s.seqState := rfl
@[simp] theorem State.clearEvents_origin (s : State) (clr : BitVec 6) : (s.clearEvents clr).origin = s.origin := rfl
@[simp] theorem State.clearEvents_tmoCnt (s : State) (clr : BitVec 6) : (s.clearEvents clr).tmoCnt = s.tmoCnt := rfl
@[simp] theorem State.clearEvents_setCnt (s : State) (clr : BitVec 6) : (s.clearEvents clr).setCnt = s.setCnt := rfl
@[simp] theorem State.clearEvents_refCnt (s : State) (clr : BitVec 6) : (s.clearEvents clr).refCnt = s.refCnt := rfl
@[simp] theorem State.clearEvents_now (s : State) (clr : BitVec 6) : (s.clearEvents clr).now = s.now := rfl
@[simp] theorem State.clearEvents_req (s : State) (clr : BitVec 6) : (s.clearEvents clr).req = s.req := rfl
@[simp] theorem State.clearEvents_evt (s : State) (clr : BitVec 6) : (s.clearEvents clr).evt = s.evt &&& ~~~clr := rfl
@[simp] theorem State.clearEvents_ien (s : State) (clr : BitVec 6) : (s.clearEvents clr).ien = s.ien := rfl
@[simp] theorem State.clearEvents_lastValid (s : State) (clr : BitVec 6) :
    (s.clearEvents clr).lastValid = s.lastValid := rfl
@[simp] theorem State.clearEvents_inputs (s : State) (clr : BitVec 6) : (s.clearEvents clr).inputs = s.inputs := rfl
@[simp] theorem State.clearEvents_cycle (s : State) (clr : BitVec 6) : (s.clearEvents clr).cycle = s.cycle := rfl
@[simp] theorem State.clearEvents_out (s : State) (clr : BitVec 6) : (s.clearEvents clr).out = s.out := rfl
@[simp] theorem State.clearEvents_wireTx (s : State) (clr : BitVec 6) : (s.clearEvents clr).wireTx = s.wireTx := rfl

/-! ## State.driveRdata -/

@[simp] theorem State.driveRdata_ds (s : State) (v : Word) : (s.driveRdata v).ds = s.ds := rfl
@[simp] theorem State.driveRdata_tLastPoll (s : State) (v : Word) : (s.driveRdata v).tLastPoll = s.tLastPoll := rfl
@[simp] theorem State.driveRdata_tLastCmd (s : State) (v : Word) : (s.driveRdata v).tLastCmd = s.tLastCmd := rfl
@[simp] theorem State.driveRdata_cmd (s : State) (v : Word) : (s.driveRdata v).cmd = s.cmd := rfl
@[simp] theorem State.driveRdata_rxbuf (s : State) (v : Word) : (s.driveRdata v).rxbuf = s.rxbuf := rfl
@[simp] theorem State.driveRdata_rxCnt (s : State) (v : Word) : (s.driveRdata v).rxCnt = s.rxCnt := rfl
@[simp] theorem State.driveRdata_txIdx (s : State) (v : Word) : (s.driveRdata v).txIdx = s.txIdx := rfl
@[simp] theorem State.driveRdata_seqState (s : State) (v : Word) : (s.driveRdata v).seqState = s.seqState := rfl
@[simp] theorem State.driveRdata_origin (s : State) (v : Word) : (s.driveRdata v).origin = s.origin := rfl
@[simp] theorem State.driveRdata_tmoCnt (s : State) (v : Word) : (s.driveRdata v).tmoCnt = s.tmoCnt := rfl
@[simp] theorem State.driveRdata_setCnt (s : State) (v : Word) : (s.driveRdata v).setCnt = s.setCnt := rfl
@[simp] theorem State.driveRdata_refCnt (s : State) (v : Word) : (s.driveRdata v).refCnt = s.refCnt := rfl
@[simp] theorem State.driveRdata_now (s : State) (v : Word) : (s.driveRdata v).now = s.now := rfl
@[simp] theorem State.driveRdata_req (s : State) (v : Word) : (s.driveRdata v).req = s.req := rfl
@[simp] theorem State.driveRdata_evt (s : State) (v : Word) : (s.driveRdata v).evt = s.evt := rfl
@[simp] theorem State.driveRdata_ien (s : State) (v : Word) : (s.driveRdata v).ien = s.ien := rfl
@[simp] theorem State.driveRdata_lastValid (s : State) (v : Word) : (s.driveRdata v).lastValid = s.lastValid := rfl
@[simp] theorem State.driveRdata_inputs (s : State) (v : Word) : (s.driveRdata v).inputs = s.inputs := rfl
@[simp] theorem State.driveRdata_cycle (s : State) (v : Word) : (s.driveRdata v).cycle = s.cycle := rfl
@[simp] theorem State.driveRdata_out (s : State) (v : Word) : (s.driveRdata v).out = { s.out with hbRdata := v } := rfl
@[simp] theorem State.driveRdata_wireTx (s : State) (v : Word) : (s.driveRdata v).wireTx = s.wireTx := rfl

/-! ## State.encodeCmd -/

@[simp] theorem State.encodeCmd_ds (s : State) : s.encodeCmd.ds = s.ds := by simp only [State.encodeCmd]
@[simp] theorem State.encodeCmd_tLastPoll (s : State) :
    s.encodeCmd.tLastPoll = s.tLastPoll := by simp only [State.encodeCmd]
@[simp] theorem State.encodeCmd_tLastCmd (s : State) :
    s.encodeCmd.tLastCmd = s.tLastCmd := by simp only [State.encodeCmd]
@[simp] theorem State.encodeCmd_cmd (s : State) :
    s.encodeCmd.cmd = encodeFrame s.req s.ds s.cmd := by simp only [State.encodeCmd]
@[simp] theorem State.encodeCmd_rxbuf (s : State) : s.encodeCmd.rxbuf = s.rxbuf := by simp only [State.encodeCmd]
@[simp] theorem State.encodeCmd_rxCnt (s : State) : s.encodeCmd.rxCnt = s.rxCnt := by simp only [State.encodeCmd]
@[simp] theorem State.encodeCmd_txIdx (s : State) : s.encodeCmd.txIdx = s.txIdx := by simp only [State.encodeCmd]
@[simp] theorem State.encodeCmd_seqState (s : State) :
    s.encodeCmd.seqState = s.seqState := by simp only [State.encodeCmd]
@[simp] theorem State.encodeCmd_origin (s : State) : s.encodeCmd.origin = s.origin := by simp only [State.encodeCmd]
@[simp] theorem State.encodeCmd_tmoCnt (s : State) : s.encodeCmd.tmoCnt = s.tmoCnt := by simp only [State.encodeCmd]
@[simp] theorem State.encodeCmd_setCnt (s : State) : s.encodeCmd.setCnt = s.setCnt := by simp only [State.encodeCmd]
@[simp] theorem State.encodeCmd_refCnt (s : State) : s.encodeCmd.refCnt = s.refCnt := by simp only [State.encodeCmd]
@[simp] theorem State.encodeCmd_now (s : State) : s.encodeCmd.now = s.now := by simp only [State.encodeCmd]
@[simp] theorem State.encodeCmd_req (s : State) : s.encodeCmd.req = s.req := by simp only [State.encodeCmd]
@[simp] theorem State.encodeCmd_evt (s : State) : s.encodeCmd.evt = s.evt := by simp only [State.encodeCmd]
@[simp] theorem State.encodeCmd_ien (s : State) : s.encodeCmd.ien = s.ien := by simp only [State.encodeCmd]
@[simp] theorem State.encodeCmd_lastValid (s : State) :
    s.encodeCmd.lastValid = s.lastValid := by simp only [State.encodeCmd]
@[simp] theorem State.encodeCmd_inputs (s : State) : s.encodeCmd.inputs = s.inputs := by simp only [State.encodeCmd]
@[simp] theorem State.encodeCmd_cycle (s : State) : s.encodeCmd.cycle = s.cycle := by simp only [State.encodeCmd]
@[simp] theorem State.encodeCmd_out (s : State) : s.encodeCmd.out = s.out := by simp only [State.encodeCmd]
@[simp] theorem State.encodeCmd_wireTx (s : State) : s.encodeCmd.wireTx = s.wireTx := by simp only [State.encodeCmd]

/-! ## State.pollStart -/

@[simp] theorem State.pollStart_ds (s : State) : s.pollStart.ds = s.ds := rfl
@[simp] theorem State.pollStart_tLastPoll (s : State) : s.pollStart.tLastPoll = s.tLastPoll := rfl
@[simp] theorem State.pollStart_tLastCmd (s : State) : s.pollStart.tLastCmd = s.tLastCmd := rfl
@[simp] theorem State.pollStart_cmd (s : State) : s.pollStart.cmd = s.cmd := rfl
@[simp] theorem State.pollStart_rxbuf (s : State) : s.pollStart.rxbuf = rxbufZero := rfl
@[simp] theorem State.pollStart_rxCnt (s : State) : s.pollStart.rxCnt = 0 := rfl
@[simp] theorem State.pollStart_txIdx (s : State) : s.pollStart.txIdx = 0 := rfl
@[simp] theorem State.pollStart_seqState (s : State) : s.pollStart.seqState = s.seqState := rfl
@[simp] theorem State.pollStart_origin (s : State) : s.pollStart.origin = s.origin := rfl
@[simp] theorem State.pollStart_tmoCnt (s : State) : s.pollStart.tmoCnt = s.tmoCnt := rfl
@[simp] theorem State.pollStart_setCnt (s : State) : s.pollStart.setCnt = s.setCnt := rfl
@[simp] theorem State.pollStart_refCnt (s : State) : s.pollStart.refCnt = 0 := rfl
@[simp] theorem State.pollStart_now (s : State) : s.pollStart.now = s.now := rfl
@[simp] theorem State.pollStart_req (s : State) : s.pollStart.req = s.req := rfl
@[simp] theorem State.pollStart_evt (s : State) : s.pollStart.evt = s.evt := rfl
@[simp] theorem State.pollStart_ien (s : State) : s.pollStart.ien = s.ien := rfl
@[simp] theorem State.pollStart_lastValid (s : State) : s.pollStart.lastValid = s.lastValid := rfl
@[simp] theorem State.pollStart_inputs (s : State) : s.pollStart.inputs = s.inputs := rfl
@[simp] theorem State.pollStart_cycle (s : State) : s.pollStart.cycle = s.cycle := rfl
@[simp] theorem State.pollStart_out (s : State) : s.pollStart.out = s.out := rfl
@[simp] theorem State.pollStart_wireTx (s : State) : s.pollStart.wireTx = s.wireTx := rfl

/-! ## State.enterPoll -/

@[simp] theorem State.enterPoll_ds (s : State) : s.enterPoll.ds = s.ds := rfl
@[simp] theorem State.enterPoll_tLastPoll (s : State) : s.enterPoll.tLastPoll = s.tLastPoll := rfl
@[simp] theorem State.enterPoll_tLastCmd (s : State) : s.enterPoll.tLastCmd = s.tLastCmd := rfl
@[simp] theorem State.enterPoll_cmd (s : State) : s.enterPoll.cmd = s.cmd := rfl
@[simp] theorem State.enterPoll_rxbuf (s : State) : s.enterPoll.rxbuf = rxbufZero := rfl
@[simp] theorem State.enterPoll_rxCnt (s : State) : s.enterPoll.rxCnt = 0 := rfl
@[simp] theorem State.enterPoll_txIdx (s : State) : s.enterPoll.txIdx = 0 := rfl
@[simp] theorem State.enterPoll_seqState (s : State) : s.enterPoll.seqState = .txQry := rfl
@[simp] theorem State.enterPoll_origin (s : State) : s.enterPoll.origin = s.origin := rfl
@[simp] theorem State.enterPoll_tmoCnt (s : State) : s.enterPoll.tmoCnt = s.tmoCnt := rfl
@[simp] theorem State.enterPoll_setCnt (s : State) : s.enterPoll.setCnt = s.setCnt := rfl
@[simp] theorem State.enterPoll_refCnt (s : State) : s.enterPoll.refCnt = 0 := rfl
@[simp] theorem State.enterPoll_now (s : State) : s.enterPoll.now = s.now := rfl
@[simp] theorem State.enterPoll_req (s : State) : s.enterPoll.req = s.req := rfl
@[simp] theorem State.enterPoll_evt (s : State) : s.enterPoll.evt = s.evt := rfl
@[simp] theorem State.enterPoll_ien (s : State) : s.enterPoll.ien = s.ien := rfl
@[simp] theorem State.enterPoll_lastValid (s : State) : s.enterPoll.lastValid = s.lastValid := rfl
@[simp] theorem State.enterPoll_inputs (s : State) : s.enterPoll.inputs = s.inputs := rfl
@[simp] theorem State.enterPoll_cycle (s : State) : s.enterPoll.cycle = s.cycle := rfl
@[simp] theorem State.enterPoll_out (s : State) : s.enterPoll.out = s.out := rfl
@[simp] theorem State.enterPoll_wireTx (s : State) : s.enterPoll.wireTx = s.wireTx := rfl

/-! ## State.applyAccept -/

@[simp] theorem State.applyAccept_ds (s : State) :
    s.applyAccept.ds = s.ds := by simp only [State.applyAccept, State.encodeCmd]
@[simp] theorem State.applyAccept_tLastPoll (s : State) :
    s.applyAccept.tLastPoll = s.tLastPoll := by simp only [State.applyAccept, State.encodeCmd]
@[simp] theorem State.applyAccept_tLastCmd (s : State) :
    s.applyAccept.tLastCmd = s.now := by simp only [State.applyAccept, State.encodeCmd]
@[simp] theorem State.applyAccept_cmd (s : State) :
    s.applyAccept.cmd = encodeFrame s.req s.ds s.cmd := by simp only [State.applyAccept, State.encodeCmd]
@[simp] theorem State.applyAccept_rxbuf (s : State) :
    s.applyAccept.rxbuf = s.rxbuf := by simp only [State.applyAccept, State.encodeCmd]
@[simp] theorem State.applyAccept_rxCnt (s : State) :
    s.applyAccept.rxCnt = s.rxCnt := by simp only [State.applyAccept, State.encodeCmd]
@[simp] theorem State.applyAccept_txIdx (s : State) :
    s.applyAccept.txIdx = 0 := by simp only [State.applyAccept, State.encodeCmd]
@[simp] theorem State.applyAccept_seqState (s : State) :
    s.applyAccept.seqState = .txCmd := by simp only [State.applyAccept, State.encodeCmd]
@[simp] theorem State.applyAccept_origin (s : State) :
    s.applyAccept.origin = .apply := by simp only [State.applyAccept, State.encodeCmd]
@[simp] theorem State.applyAccept_tmoCnt (s : State) :
    s.applyAccept.tmoCnt = s.tmoCnt := by simp only [State.applyAccept, State.encodeCmd]
@[simp] theorem State.applyAccept_setCnt (s : State) :
    s.applyAccept.setCnt = s.setCnt := by simp only [State.applyAccept, State.encodeCmd]
@[simp] theorem State.applyAccept_refCnt (s : State) :
    s.applyAccept.refCnt = s.refCnt := by simp only [State.applyAccept, State.encodeCmd]
@[simp] theorem State.applyAccept_now (s : State) :
    s.applyAccept.now = s.now := by simp only [State.applyAccept, State.encodeCmd]
@[simp] theorem State.applyAccept_req (s : State) :
    s.applyAccept.req = s.req := by simp only [State.applyAccept, State.encodeCmd]
@[simp] theorem State.applyAccept_evt (s : State) :
    s.applyAccept.evt = s.evt := by simp only [State.applyAccept, State.encodeCmd]
@[simp] theorem State.applyAccept_ien (s : State) :
    s.applyAccept.ien = s.ien := by simp only [State.applyAccept, State.encodeCmd]
@[simp] theorem State.applyAccept_lastValid (s : State) :
    s.applyAccept.lastValid = s.lastValid := by simp only [State.applyAccept, State.encodeCmd]
@[simp] theorem State.applyAccept_inputs (s : State) :
    s.applyAccept.inputs = s.inputs := by simp only [State.applyAccept, State.encodeCmd]
@[simp] theorem State.applyAccept_cycle (s : State) :
    s.applyAccept.cycle = s.cycle := by simp only [State.applyAccept, State.encodeCmd]
@[simp] theorem State.applyAccept_out (s : State) :
    s.applyAccept.out = s.out := by simp only [State.applyAccept, State.encodeCmd]
@[simp] theorem State.applyAccept_wireTx (s : State) :
    s.applyAccept.wireTx = s.wireTx := by simp only [State.applyAccept, State.encodeCmd]

/-! ## State.refreshAccept -/

@[simp] theorem State.refreshAccept_ds (s : State) : s.refreshAccept.ds = s.ds := rfl
@[simp] theorem State.refreshAccept_tLastPoll (s : State) : s.refreshAccept.tLastPoll = s.tLastPoll := rfl
@[simp] theorem State.refreshAccept_tLastCmd (s : State) : s.refreshAccept.tLastCmd = s.tLastCmd := rfl
@[simp] theorem State.refreshAccept_cmd (s : State) : s.refreshAccept.cmd = s.cmd := rfl
@[simp] theorem State.refreshAccept_rxbuf (s : State) : s.refreshAccept.rxbuf = rxbufZero := rfl
@[simp] theorem State.refreshAccept_rxCnt (s : State) : s.refreshAccept.rxCnt = 0 := rfl
@[simp] theorem State.refreshAccept_txIdx (s : State) : s.refreshAccept.txIdx = 0 := rfl
@[simp] theorem State.refreshAccept_seqState (s : State) : s.refreshAccept.seqState = .txQry := rfl
@[simp] theorem State.refreshAccept_origin (s : State) : s.refreshAccept.origin = .hostRefresh := rfl
@[simp] theorem State.refreshAccept_tmoCnt (s : State) : s.refreshAccept.tmoCnt = s.tmoCnt := rfl
@[simp] theorem State.refreshAccept_setCnt (s : State) : s.refreshAccept.setCnt = s.setCnt := rfl
@[simp] theorem State.refreshAccept_refCnt (s : State) : s.refreshAccept.refCnt = 0 := rfl
@[simp] theorem State.refreshAccept_now (s : State) : s.refreshAccept.now = s.now := rfl
@[simp] theorem State.refreshAccept_req (s : State) : s.refreshAccept.req = s.req := rfl
@[simp] theorem State.refreshAccept_evt (s : State) : s.refreshAccept.evt = s.evt := rfl
@[simp] theorem State.refreshAccept_ien (s : State) : s.refreshAccept.ien = s.ien := rfl
@[simp] theorem State.refreshAccept_lastValid (s : State) : s.refreshAccept.lastValid = s.lastValid := rfl
@[simp] theorem State.refreshAccept_inputs (s : State) : s.refreshAccept.inputs = s.inputs := rfl
@[simp] theorem State.refreshAccept_cycle (s : State) : s.refreshAccept.cycle = s.cycle := rfl
@[simp] theorem State.refreshAccept_out (s : State) : s.refreshAccept.out = s.out := rfl
@[simp] theorem State.refreshAccept_wireTx (s : State) : s.refreshAccept.wireTx = s.wireTx := rfl

/-! ## State.periodicStart -/

@[simp] theorem State.periodicStart_ds (s : State) : s.periodicStart.ds = s.ds := rfl
@[simp] theorem State.periodicStart_tLastPoll (s : State) : s.periodicStart.tLastPoll = s.tLastPoll := rfl
@[simp] theorem State.periodicStart_tLastCmd (s : State) : s.periodicStart.tLastCmd = s.tLastCmd := rfl
@[simp] theorem State.periodicStart_cmd (s : State) : s.periodicStart.cmd = s.cmd := rfl
@[simp] theorem State.periodicStart_rxbuf (s : State) : s.periodicStart.rxbuf = rxbufZero := rfl
@[simp] theorem State.periodicStart_rxCnt (s : State) : s.periodicStart.rxCnt = 0 := rfl
@[simp] theorem State.periodicStart_txIdx (s : State) : s.periodicStart.txIdx = 0 := rfl
@[simp] theorem State.periodicStart_seqState (s : State) : s.periodicStart.seqState = .txQry := rfl
@[simp] theorem State.periodicStart_origin (s : State) : s.periodicStart.origin = .periodic := rfl
@[simp] theorem State.periodicStart_tmoCnt (s : State) : s.periodicStart.tmoCnt = s.tmoCnt := rfl
@[simp] theorem State.periodicStart_setCnt (s : State) : s.periodicStart.setCnt = s.setCnt := rfl
@[simp] theorem State.periodicStart_refCnt (s : State) : s.periodicStart.refCnt = 0 := rfl
@[simp] theorem State.periodicStart_now (s : State) : s.periodicStart.now = s.now := rfl
@[simp] theorem State.periodicStart_req (s : State) : s.periodicStart.req = s.req := rfl
@[simp] theorem State.periodicStart_evt (s : State) : s.periodicStart.evt = s.evt := rfl
@[simp] theorem State.periodicStart_ien (s : State) : s.periodicStart.ien = s.ien := rfl
@[simp] theorem State.periodicStart_lastValid (s : State) : s.periodicStart.lastValid = s.lastValid := rfl
@[simp] theorem State.periodicStart_inputs (s : State) : s.periodicStart.inputs = s.inputs := rfl
@[simp] theorem State.periodicStart_cycle (s : State) : s.periodicStart.cycle = s.cycle := rfl
@[simp] theorem State.periodicStart_out (s : State) : s.periodicStart.out = s.out := rfl
@[simp] theorem State.periodicStart_wireTx (s : State) : s.periodicStart.wireTx = s.wireTx := rfl

/-! ## State.resetBlock -/

@[simp] theorem State.resetBlock_ds (s : State) : s.resetBlock.ds = State.reset.ds := rfl
@[simp] theorem State.resetBlock_tLastPoll (s : State) : s.resetBlock.tLastPoll = State.reset.tLastPoll := rfl
@[simp] theorem State.resetBlock_tLastCmd (s : State) : s.resetBlock.tLastCmd = State.reset.tLastCmd := rfl
@[simp] theorem State.resetBlock_cmd (s : State) : s.resetBlock.cmd = State.reset.cmd := rfl
@[simp] theorem State.resetBlock_rxbuf (s : State) : s.resetBlock.rxbuf = State.reset.rxbuf := rfl
@[simp] theorem State.resetBlock_rxCnt (s : State) : s.resetBlock.rxCnt = State.reset.rxCnt := rfl
@[simp] theorem State.resetBlock_txIdx (s : State) : s.resetBlock.txIdx = State.reset.txIdx := rfl
@[simp] theorem State.resetBlock_seqState (s : State) : s.resetBlock.seqState = State.reset.seqState := rfl
@[simp] theorem State.resetBlock_origin (s : State) : s.resetBlock.origin = State.reset.origin := rfl
@[simp] theorem State.resetBlock_tmoCnt (s : State) : s.resetBlock.tmoCnt = State.reset.tmoCnt := rfl
@[simp] theorem State.resetBlock_setCnt (s : State) : s.resetBlock.setCnt = State.reset.setCnt := rfl
@[simp] theorem State.resetBlock_refCnt (s : State) : s.resetBlock.refCnt = State.reset.refCnt := rfl
@[simp] theorem State.resetBlock_now (s : State) : s.resetBlock.now = State.reset.now := rfl
@[simp] theorem State.resetBlock_req (s : State) : s.resetBlock.req = State.reset.req := rfl
@[simp] theorem State.resetBlock_evt (s : State) : s.resetBlock.evt = State.reset.evt := rfl
@[simp] theorem State.resetBlock_ien (s : State) : s.resetBlock.ien = State.reset.ien := rfl
@[simp] theorem State.resetBlock_lastValid (s : State) : s.resetBlock.lastValid = State.reset.lastValid := rfl
@[simp] theorem State.resetBlock_inputs (s : State) : s.resetBlock.inputs = s.inputs := rfl
@[simp] theorem State.resetBlock_cycle (s : State) : s.resetBlock.cycle = s.cycle := rfl
@[simp] theorem State.resetBlock_out (s : State) : s.resetBlock.out = s.out := rfl
@[simp] theorem State.resetBlock_wireTx (s : State) : s.resetBlock.wireTx = s.wireTx := rfl

/-! ## State.nextSample -/

@[simp] theorem State.nextSample_ds (s : State) : s.nextSample.ds = s.ds := rfl
@[simp] theorem State.nextSample_tLastPoll (s : State) : s.nextSample.tLastPoll = s.tLastPoll := rfl
@[simp] theorem State.nextSample_tLastCmd (s : State) : s.nextSample.tLastCmd = s.tLastCmd := rfl
@[simp] theorem State.nextSample_cmd (s : State) : s.nextSample.cmd = s.cmd := rfl
@[simp] theorem State.nextSample_rxbuf (s : State) : s.nextSample.rxbuf = s.rxbuf := rfl
@[simp] theorem State.nextSample_rxCnt (s : State) : s.nextSample.rxCnt = s.rxCnt := rfl
@[simp] theorem State.nextSample_txIdx (s : State) : s.nextSample.txIdx = s.txIdx := rfl
@[simp] theorem State.nextSample_seqState (s : State) : s.nextSample.seqState = s.seqState := rfl
@[simp] theorem State.nextSample_origin (s : State) : s.nextSample.origin = s.origin := rfl
@[simp] theorem State.nextSample_tmoCnt (s : State) : s.nextSample.tmoCnt = s.tmoCnt := rfl
@[simp] theorem State.nextSample_setCnt (s : State) : s.nextSample.setCnt = s.setCnt := rfl
@[simp] theorem State.nextSample_refCnt (s : State) : s.nextSample.refCnt = s.refCnt := rfl
@[simp] theorem State.nextSample_now (s : State) : s.nextSample.now = s.now := rfl
@[simp] theorem State.nextSample_req (s : State) : s.nextSample.req = s.req := rfl
@[simp] theorem State.nextSample_evt (s : State) : s.nextSample.evt = s.evt := rfl
@[simp] theorem State.nextSample_ien (s : State) : s.nextSample.ien = s.ien := rfl
@[simp] theorem State.nextSample_lastValid (s : State) : s.nextSample.lastValid = s.lastValid := rfl
@[simp] theorem State.nextSample_inputs (s : State) : s.nextSample.inputs = s.inputs.tail := rfl
@[simp] theorem State.nextSample_cycle (s : State) : s.nextSample.cycle = s.cycle + 1 := rfl
@[simp] theorem State.nextSample_out (s : State) : s.nextSample.out = s.out := rfl
@[simp] theorem State.nextSample_wireTx (s : State) : s.nextSample.wireTx = s.wireTx := rfl

/-! ## State.presentTxn -/

@[simp] theorem State.presentTxn_ds (s : State) (w : Txn) : (s.presentTxn w).ds = s.ds := rfl
@[simp] theorem State.presentTxn_tLastPoll (s : State) (w : Txn) : (s.presentTxn w).tLastPoll = s.tLastPoll := rfl
@[simp] theorem State.presentTxn_tLastCmd (s : State) (w : Txn) : (s.presentTxn w).tLastCmd = s.tLastCmd := rfl
@[simp] theorem State.presentTxn_cmd (s : State) (w : Txn) : (s.presentTxn w).cmd = s.cmd := rfl
@[simp] theorem State.presentTxn_rxbuf (s : State) (w : Txn) : (s.presentTxn w).rxbuf = s.rxbuf := rfl
@[simp] theorem State.presentTxn_rxCnt (s : State) (w : Txn) : (s.presentTxn w).rxCnt = s.rxCnt := rfl
@[simp] theorem State.presentTxn_txIdx (s : State) (w : Txn) : (s.presentTxn w).txIdx = s.txIdx := rfl
@[simp] theorem State.presentTxn_seqState (s : State) (w : Txn) : (s.presentTxn w).seqState = s.seqState := rfl
@[simp] theorem State.presentTxn_origin (s : State) (w : Txn) : (s.presentTxn w).origin = s.origin := rfl
@[simp] theorem State.presentTxn_tmoCnt (s : State) (w : Txn) : (s.presentTxn w).tmoCnt = s.tmoCnt := rfl
@[simp] theorem State.presentTxn_setCnt (s : State) (w : Txn) : (s.presentTxn w).setCnt = s.setCnt := rfl
@[simp] theorem State.presentTxn_refCnt (s : State) (w : Txn) : (s.presentTxn w).refCnt = s.refCnt := rfl
@[simp] theorem State.presentTxn_now (s : State) (w : Txn) : (s.presentTxn w).now = s.now := rfl
@[simp] theorem State.presentTxn_req (s : State) (w : Txn) : (s.presentTxn w).req = s.req := rfl
@[simp] theorem State.presentTxn_evt (s : State) (w : Txn) : (s.presentTxn w).evt = s.evt := rfl
@[simp] theorem State.presentTxn_ien (s : State) (w : Txn) : (s.presentTxn w).ien = s.ien := rfl
@[simp] theorem State.presentTxn_lastValid (s : State) (w : Txn) : (s.presentTxn w).lastValid = s.lastValid := rfl
@[simp] theorem State.presentTxn_inputs (s : State) (w : Txn) :
    (s.presentTxn w).inputs = (s.inputs.headD Inputs.quiet).withTxn w :: s.inputs.tail := rfl
@[simp] theorem State.presentTxn_cycle (s : State) (w : Txn) : (s.presentTxn w).cycle = s.cycle := rfl
@[simp] theorem State.presentTxn_out (s : State) (w : Txn) : (s.presentTxn w).out = s.out := rfl
@[simp] theorem State.presentTxn_wireTx (s : State) (w : Txn) : (s.presentTxn w).wireTx = s.wireTx := rfl

/-! ## tickCounters -/

@[simp] theorem tickCounters_ds (pre post : State) : (tickCounters pre post).ds = post.ds := rfl
@[simp] theorem tickCounters_tLastPoll (pre post : State) : (tickCounters pre post).tLastPoll = post.tLastPoll := rfl
@[simp] theorem tickCounters_tLastCmd (pre post : State) : (tickCounters pre post).tLastCmd = post.tLastCmd := rfl
@[simp] theorem tickCounters_cmd (pre post : State) : (tickCounters pre post).cmd = post.cmd := rfl
@[simp] theorem tickCounters_rxbuf (pre post : State) : (tickCounters pre post).rxbuf = post.rxbuf := rfl
@[simp] theorem tickCounters_rxCnt (pre post : State) : (tickCounters pre post).rxCnt = post.rxCnt := rfl
@[simp] theorem tickCounters_txIdx (pre post : State) : (tickCounters pre post).txIdx = post.txIdx := rfl
@[simp] theorem tickCounters_seqState (pre post : State) : (tickCounters pre post).seqState = post.seqState := rfl
@[simp] theorem tickCounters_origin (pre post : State) : (tickCounters pre post).origin = post.origin := rfl
@[simp] theorem tickCounters_tmoCnt (pre post : State) : (tickCounters pre post).tmoCnt = post.tmoCnt := rfl
@[simp] theorem tickCounters_setCnt (pre post : State) : (tickCounters pre post).setCnt = post.setCnt := rfl
@[simp] theorem tickCounters_refCnt (pre post : State) :
    (tickCounters pre post).refCnt =
      if pre.refCnt.toNat < Config.kRefresh ∧ ¬ pollStarted pre post then pre.refCnt + 1 else post.refCnt := rfl
@[simp] theorem tickCounters_now (pre post : State) : (tickCounters pre post).now = post.now + 1 := rfl
@[simp] theorem tickCounters_req (pre post : State) : (tickCounters pre post).req = post.req := rfl
@[simp] theorem tickCounters_evt (pre post : State) : (tickCounters pre post).evt = post.evt := rfl
@[simp] theorem tickCounters_ien (pre post : State) : (tickCounters pre post).ien = post.ien := rfl
@[simp] theorem tickCounters_lastValid (pre post : State) : (tickCounters pre post).lastValid = post.lastValid := rfl
@[simp] theorem tickCounters_inputs (pre post : State) : (tickCounters pre post).inputs = post.inputs := rfl
@[simp] theorem tickCounters_cycle (pre post : State) : (tickCounters pre post).cycle = post.cycle := rfl
@[simp] theorem tickCounters_out (pre post : State) : (tickCounters pre post).out = post.out := rfl
@[simp] theorem tickCounters_wireTx (pre post : State) : (tickCounters pre post).wireTx = post.wireTx := rfl

end Sys2Proof.Machine
end

