-- ==== Sys2Proof/Laws/Ops.lean ====
section
/-! SUPPORT. For each shared operation, once, everything it can do; and the bytes of the two register arrays after a
write. -/

namespace Sys2Proof.Machine

/-! ## Bus accesses and host operations -/

/-- A bus access completes and changes hb_rdata only. -/
@[simp] theorem busAccess_eq (v : Word) (s : State) : busAccess v s = .next (s.driveRdata v) := rfl

/-- In IDLE a host operation is accepted. -/
@[simp] theorem acceptInIdle_idle {accept : State → State} {s : State} (h : s.seqState = .idle) :
    acceptInIdle accept s = accept s := if_pos h

/-- In any other state it is dropped. -/
@[simp] theorem acceptInIdle_busy {accept : State → State} {s : State} (h : s.seqState ≠ .idle) :
    acceptInIdle accept s = s.raise .dropped := if_neg h

/-! ## Receive and transmit -/

/-- `storeByte` stores in range and faults past the buffer; nothing else. -/
theorem storeByte_cases (b : Byte) (s : State) :
    (s.rxCnt.toNat < Config.kRxCap ∧ storeByte b s =
      .next { s with rxbuf := s.rxbuf.setIfInBounds s.rxCnt.toNat b, rxCnt := s.rxCnt + 1 }) ∨
    (Config.kRxCap ≤ s.rxCnt.toNat ∧ storeByte b s = .fault .rxIndexBeyondBuffer) := by
  by_cases h : s.rxCnt.toNat < Config.kRxCap
  · exact .inl ⟨h, if_pos h⟩
  · exact .inr ⟨Nat.le_of_not_lt h, if_neg h⟩

/-- `sendByte` sends the last byte, sends another byte, or faults where no byte is offered; nothing else. -/
theorem sendByte_cases (len : Nat) (finish : State → State) (s : State) :
    (∃ b, s.txOffer = some b ∧ s.txIdx.toNat = len - 1 ∧
      sendByte len finish s = .next (finish { s with wireTx := s.wireTx ++ [b], txIdx := 0 })) ∨
    (∃ b, s.txOffer = some b ∧ s.txIdx.toNat ≠ len - 1 ∧
      sendByte len finish s = .next { s with wireTx := s.wireTx ++ [b], txIdx := s.txIdx + 1 }) ∨
    (s.txOffer = none ∧ sendByte len finish s = .fault .txIndexBeyondFrame) := by
  unfold sendByte
  cases h : s.txOffer with
  | none => exact .inr (.inr ⟨rfl, rfl⟩)
  | some b =>
    by_cases hl : s.txIdx.toNat = len - 1
    · exact .inl ⟨b, rfl, hl, if_pos hl⟩
    · exact .inr (.inl ⟨b, rfl, hl, if_neg hl⟩)

/-! ## A cycle -/

@[simp] theorem runOps_nil (s : State) : runOps [] s = .next s := rfl

/-- An operation that answers a next state hands it to the rest. -/
theorem runOps_cons_next {i : Instr} {is : List Instr} {s t : State} (h : exec i s = .next t) :
    runOps (i :: is) s = runOps is t := by
  simp [runOps, h]

/-- A list of operations that completes did complete its first one. -/
theorem runOps_cons_inv {i : Instr} {is : List Instr} {s u : State} (h : runOps (i :: is) s = .next u) :
    ∃ t, exec i s = .next t ∧ runOps is t = .next u := by
  unfold runOps at h
  split at h
  · exact ⟨_, ‹_›, h⟩
  · exact absurd h (by simp)
  · exact absurd h (by simp)

/-- A clock edge that answers a next state ran all its operations, then finished the cycle. -/
theorem clockEdge_inv {p : Inputs} {s u : State} (h : clockEdge p s = .next u) :
    ∃ t, runOps (cycleOps s p) s = .next t ∧ u = finishCycle s p t := by
  unfold clockEdge at h
  split at h
  · exact ⟨_, ‹_›, by simpa using h.symm⟩
  · exact absurd h (by simp)
  · exact absurd h (by simp)

/-- A clock edge whose operations complete. -/
theorem clockEdge_next {p : Inputs} {s t : State} (h : runOps (cycleOps s p) s = .next t) :
    clockEdge p s = .next (finishCycle s p t) := by
  simp [clockEdge, h]

/-- In a reset cycle only STARTUP runs. -/
@[simp] theorem cycleOps_rst {s : State} {p : Inputs} (h : p.rst = true) : cycleOps s p = [.startup] := if_pos h

/-- In any other cycle the bus transaction runs, then the internal operations. -/
@[simp] theorem cycleOps_run {s : State} {p : Inputs} (h : p.rst = false) :
    cycleOps s p = decodeTxn p.txn :: internalOps s p := by
  simp [cycleOps, h]

/-- The sample a step takes is the first one listed. -/
theorem ports_of_cons {s : State} {p : Inputs} {ps : List Inputs} (h : s.inputs = p :: ps) : s.ports = p := by
  simp [State.ports, h]

/-- The sample `presentTxn` lists is the one the next step takes. -/
@[simp] theorem ports_presentTxn (s : State) (w : Txn) :
    (s.presentTxn w).ports = (s.inputs.headD Inputs.quiet).withTxn w := rfl

/-- TX_QRY is entered exactly where the state before is another one and the state after is TX_QRY. -/
theorem pollStarted_iff (pre post : State) :
    pollStarted pre post = true ↔ pre.seqState ≠ .txQry ∧ post.seqState = .txQry := by
  simp [pollStarted]

/-! ## Bytes of the register arrays -/

/-- A byte of CMD after one byte is written. -/
theorem getD_setIfInBounds {n : Nat} (v : Vector Byte n) (i j : Nat) (b : Byte) (h : i < n) :
    (v.setIfInBounds i b)[j]?.getD 0 = if i = j then b else v[j]?.getD 0 := by
  rw [Vector.getElem?_setIfInBounds]
  split
  · simp
  · rfl

/-- Every byte of the cleared receive buffer is 0x00. -/
@[simp] theorem getD_rxbufZero (i : Nat) : rxbufZero[i]?.getD 0 = 0 := by
  unfold rxbufZero
  rw [Vector.getElem?_replicate]
  split <;> rfl

/-- A byte of a byte list as its bits stand in the word a window reads. -/
theorem fieldAt_getLsbD {k : Nat} (v : BitVec k) (n i : Nat) :
    (fieldAt v n).getLsbD i = (decide (i < 32) && decide (n ≤ i) && v.getLsbD (i - n)) := by
  by_cases h : i < n <;> by_cases h2 : i < 32 <;> simp [fieldAt, h, h2]
  omega

end Sys2Proof.Machine
end

