-- ==== Sys2Proof/Laws/PerInstr.lean ====
section
/-! SUPPORT. Per-instruction laws about the operations as syntax. -/

namespace Sys2Proof.Laws.EncodableIffBus

/-- The operation has a transaction word exactly if it is well-formed (30_encoding.md R115, R119). -/
def Statement (i : Instr) : Prop := (encode i).isSome = wellFormed i

theorem wrCtrlNop (lane : BitVec 2) (rest : BitVec 30) : Statement (.wrCtrlNop lane rest) := rfl
theorem wrCtrlApply (lane : BitVec 2) (rest : BitVec 30) : Statement (.wrCtrlApply lane rest) := rfl
theorem wrCtrlRefresh (lane : BitVec 2) (rest : BitVec 30) : Statement (.wrCtrlRefresh lane rest) := rfl
theorem wrCtrlBadop (lane : BitVec 2) (rest : BitVec 30) : Statement (.wrCtrlBadop lane rest) := rfl
theorem rdCtrl (lane : BitVec 2) (data : Word) : Statement (.rdCtrl lane data) := rfl
theorem rdReq (lane : BitVec 2) (data : Word) : Statement (.rdReq lane data) := rfl
theorem wrReq (lane : BitVec 2) (data : Word) : Statement (.wrReq lane data) := rfl
theorem rdStatus (lane : BitVec 2) (data : Word) : Statement (.rdStatus lane data) := rfl
theorem wrStatus (lane : BitVec 2) (data : Word) : Statement (.wrStatus lane data) := rfl
theorem rdEvt (lane : BitVec 2) (data : Word) : Statement (.rdEvt lane data) := rfl
theorem wrEvt (lane : BitVec 2) (data : Word) : Statement (.wrEvt lane data) := rfl
theorem rdIen (lane : BitVec 2) (data : Word) : Statement (.rdIen lane data) := rfl
theorem wrIen (lane : BitVec 2) (data : Word) : Statement (.wrIen lane data) := rfl
theorem rdDev0 (lane : BitVec 2) (data : Word) : Statement (.rdDev0 lane data) := rfl
theorem wrDev0 (lane : BitVec 2) (data : Word) : Statement (.wrDev0 lane data) := rfl
theorem rdDev1 (lane : BitVec 2) (data : Word) : Statement (.rdDev1 lane data) := rfl
theorem wrDev1 (lane : BitVec 2) (data : Word) : Statement (.wrDev1 lane data) := rfl
theorem rdNow (lane : BitVec 2) (data : Word) : Statement (.rdNow lane data) := rfl
theorem wrNow (lane : BitVec 2) (data : Word) : Statement (.wrNow lane data) := rfl
theorem rdTLastPoll (lane : BitVec 2) (data : Word) : Statement (.rdTLastPoll lane data) := rfl
theorem wrTLastPoll (lane : BitVec 2) (data : Word) : Statement (.wrTLastPoll lane data) := rfl
theorem rdTLastCmd (lane : BitVec 2) (data : Word) : Statement (.rdTLastCmd lane data) := rfl
theorem wrTLastCmd (lane : BitVec 2) (data : Word) : Statement (.wrTLastCmd lane data) := rfl
theorem rdTmr0 (lane : BitVec 2) (data : Word) : Statement (.rdTmr0 lane data) := rfl
theorem wrTmr0 (lane : BitVec 2) (data : Word) : Statement (.wrTmr0 lane data) := rfl
theorem rdTmr1 (lane : BitVec 2) (data : Word) : Statement (.rdTmr1 lane data) := rfl
theorem wrTmr1 (lane : BitVec 2) (data : Word) : Statement (.wrTmr1 lane data) := rfl
theorem rdCmdbuf0 (lane : BitVec 2) (data : Word) : Statement (.rdCmdbuf0 lane data) := rfl
theorem wrCmdbuf0 (lane : BitVec 2) (data : Word) : Statement (.wrCmdbuf0 lane data) := rfl
theorem rdCmdbuf1 (lane : BitVec 2) (data : Word) : Statement (.rdCmdbuf1 lane data) := rfl
theorem wrCmdbuf1 (lane : BitVec 2) (data : Word) : Statement (.wrCmdbuf1 lane data) := rfl
theorem rdCmdbuf2 (lane : BitVec 2) (data : Word) : Statement (.rdCmdbuf2 lane data) := rfl
theorem wrCmdbuf2 (lane : BitVec 2) (data : Word) : Statement (.wrCmdbuf2 lane data) := rfl
theorem rdCmdbuf3 (lane : BitVec 2) (data : Word) : Statement (.rdCmdbuf3 lane data) := rfl
theorem wrCmdbuf3 (lane : BitVec 2) (data : Word) : Statement (.wrCmdbuf3 lane data) := rfl
theorem rdCmdbuf4 (lane : BitVec 2) (data : Word) : Statement (.rdCmdbuf4 lane data) := rfl
theorem wrCmdbuf4 (lane : BitVec 2) (data : Word) : Statement (.wrCmdbuf4 lane data) := rfl
theorem rdCmdbuf5 (lane : BitVec 2) (data : Word) : Statement (.rdCmdbuf5 lane data) := rfl
theorem wrCmdbuf5 (lane : BitVec 2) (data : Word) : Statement (.wrCmdbuf5 lane data) := rfl
theorem rdCmdbuf6 (lane : BitVec 2) (data : Word) : Statement (.rdCmdbuf6 lane data) := rfl
theorem wrCmdbuf6 (lane : BitVec 2) (data : Word) : Statement (.wrCmdbuf6 lane data) := rfl
theorem rdCmdbuf7 (lane : BitVec 2) (data : Word) : Statement (.rdCmdbuf7 lane data) := rfl
theorem wrCmdbuf7 (lane : BitVec 2) (data : Word) : Statement (.wrCmdbuf7 lane data) := rfl
theorem rdCmdbuf8 (lane : BitVec 2) (data : Word) : Statement (.rdCmdbuf8 lane data) := rfl
theorem wrCmdbuf8 (lane : BitVec 2) (data : Word) : Statement (.wrCmdbuf8 lane data) := rfl
theorem rdRxbuf0 (lane : BitVec 2) (data : Word) : Statement (.rdRxbuf0 lane data) := rfl
theorem wrRxbuf0 (lane : BitVec 2) (data : Word) : Statement (.wrRxbuf0 lane data) := rfl
theorem rdRxbuf1 (lane : BitVec 2) (data : Word) : Statement (.rdRxbuf1 lane data) := rfl
theorem wrRxbuf1 (lane : BitVec 2) (data : Word) : Statement (.wrRxbuf1 lane data) := rfl
theorem rdRxbuf2 (lane : BitVec 2) (data : Word) : Statement (.rdRxbuf2 lane data) := rfl
theorem wrRxbuf2 (lane : BitVec 2) (data : Word) : Statement (.wrRxbuf2 lane data) := rfl
theorem rdRxbuf3 (lane : BitVec 2) (data : Word) : Statement (.rdRxbuf3 lane data) := rfl
theorem wrRxbuf3 (lane : BitVec 2) (data : Word) : Statement (.wrRxbuf3 lane data) := rfl
theorem rdRxbuf4 (lane : BitVec 2) (data : Word) : Statement (.rdRxbuf4 lane data) := rfl
theorem wrRxbuf4 (lane : BitVec 2) (data : Word) : Statement (.wrRxbuf4 lane data) := rfl
theorem rdRxbuf5 (lane : BitVec 2) (data : Word) : Statement (.rdRxbuf5 lane data) := rfl
theorem wrRxbuf5 (lane : BitVec 2) (data : Word) : Statement (.wrRxbuf5 lane data) := rfl
theorem rdRxbuf6 (lane : BitVec 2) (data : Word) : Statement (.rdRxbuf6 lane data) := rfl
theorem wrRxbuf6 (lane : BitVec 2) (data : Word) : Statement (.wrRxbuf6 lane data) := rfl
theorem rdRxbuf7 (lane : BitVec 2) (data : Word) : Statement (.rdRxbuf7 lane data) := rfl
theorem wrRxbuf7 (lane : BitVec 2) (data : Word) : Statement (.wrRxbuf7 lane data) := rfl
theorem rdRxbuf8 (lane : BitVec 2) (data : Word) : Statement (.rdRxbuf8 lane data) := rfl
theorem wrRxbuf8 (lane : BitVec 2) (data : Word) : Statement (.wrRxbuf8 lane data) := rfl
theorem rdRxbuf9 (lane : BitVec 2) (data : Word) : Statement (.rdRxbuf9 lane data) := rfl
theorem wrRxbuf9 (lane : BitVec 2) (data : Word) : Statement (.wrRxbuf9 lane data) := rfl
theorem rdRxbuf10 (lane : BitVec 2) (data : Word) : Statement (.rdRxbuf10 lane data) := rfl
theorem wrRxbuf10 (lane : BitVec 2) (data : Word) : Statement (.wrRxbuf10 lane data) := rfl
theorem rdRxbuf11 (lane : BitVec 2) (data : Word) : Statement (.rdRxbuf11 lane data) := rfl
theorem wrRxbuf11 (lane : BitVec 2) (data : Word) : Statement (.wrRxbuf11 lane data) := rfl
theorem rdRxbuf12 (lane : BitVec 2) (data : Word) : Statement (.rdRxbuf12 lane data) := rfl
theorem wrRxbuf12 (lane : BitVec 2) (data : Word) : Statement (.wrRxbuf12 lane data) := rfl
theorem rdRxbuf13 (lane : BitVec 2) (data : Word) : Statement (.rdRxbuf13 lane data) := rfl
theorem wrRxbuf13 (lane : BitVec 2) (data : Word) : Statement (.wrRxbuf13 lane data) := rfl
theorem rdRxbuf14 (lane : BitVec 2) (data : Word) : Statement (.rdRxbuf14 lane data) := rfl
theorem wrRxbuf14 (lane : BitVec 2) (data : Word) : Statement (.wrRxbuf14 lane data) := rfl
theorem rdRxbuf15 (lane : BitVec 2) (data : Word) : Statement (.rdRxbuf15 lane data) := rfl
theorem wrRxbuf15 (lane : BitVec 2) (data : Word) : Statement (.wrRxbuf15 lane data) := rfl
theorem rdRxbuf16 (lane : BitVec 2) (data : Word) : Statement (.rdRxbuf16 lane data) := rfl
theorem wrRxbuf16 (lane : BitVec 2) (data : Word) : Statement (.wrRxbuf16 lane data) := rfl
theorem rdRxbuf17 (lane : BitVec 2) (data : Word) : Statement (.rdRxbuf17 lane data) := rfl
theorem wrRxbuf17 (lane : BitVec 2) (data : Word) : Statement (.wrRxbuf17 lane data) := rfl
theorem rdRxbuf18 (lane : BitVec 2) (data : Word) : Statement (.rdRxbuf18 lane data) := rfl
theorem wrRxbuf18 (lane : BitVec 2) (data : Word) : Statement (.wrRxbuf18 lane data) := rfl
theorem rdRxbuf19 (lane : BitVec 2) (data : Word) : Statement (.rdRxbuf19 lane data) := rfl
theorem wrRxbuf19 (lane : BitVec 2) (data : Word) : Statement (.wrRxbuf19 lane data) := rfl
theorem rdUnmapped30To3C (low : BitVec 4) (data : Word) : Statement (.rdUnmapped30To3C low data) := rfl
theorem wrUnmapped30To3C (low : BitVec 4) (data : Word) : Statement (.wrUnmapped30To3C low data) := rfl
theorem rdUnmapped64 (lane : BitVec 2) (data : Word) : Statement (.rdUnmapped64 lane data) := rfl
theorem wrUnmapped64 (lane : BitVec 2) (data : Word) : Statement (.wrUnmapped64 lane data) := rfl
theorem rdUnmapped68 (lane : BitVec 2) (data : Word) : Statement (.rdUnmapped68 lane data) := rfl
theorem wrUnmapped68 (lane : BitVec 2) (data : Word) : Statement (.wrUnmapped68 lane data) := rfl
theorem rdUnmapped6C (lane : BitVec 2) (data : Word) : Statement (.rdUnmapped6C lane data) := rfl
theorem wrUnmapped6C (lane : BitVec 2) (data : Word) : Statement (.wrUnmapped6C lane data) := rfl
theorem rdUnmapped70To7C (low : BitVec 4) (data : Word) : Statement (.rdUnmapped70To7C low data) := rfl
theorem wrUnmapped70To7C (low : BitVec 4) (data : Word) : Statement (.wrUnmapped70To7C low data) := rfl
theorem rdUnmappedD0ToDC (low : BitVec 4) (data : Word) : Statement (.rdUnmappedD0ToDC low data) := rfl
theorem wrUnmappedD0ToDC (low : BitVec 4) (data : Word) : Statement (.wrUnmappedD0ToDC low data) := rfl
theorem rdUnmappedE0ToFC (low : BitVec 5) (data : Word) : Statement (.rdUnmappedE0ToFC low data) := rfl
theorem wrUnmappedE0ToFC (low : BitVec 5) (data : Word) : Statement (.wrUnmappedE0ToFC low data) := rfl
theorem startup : Statement .startup := rfl
theorem periodic : Statement .periodic := rfl
theorem encode : Statement .encode := rfl
theorem xorfold : Statement .xorfold := rfl
theorem decode : Statement .decode := rfl
theorem txCmdByte : Statement .txCmdByte := rfl
theorem txQryByte : Statement .txQryByte := rfl
theorem pollStart : Statement .pollStart := rfl
theorem huntByte (rxData : Byte) : Statement (.huntByte rxData) := rfl
theorem accByte (rxData : Byte) : Statement (.accByte rxData) := rfl
theorem capacityStop : Statement .capacityStop := rfl
theorem timeoutTick : Statement .timeoutTick := rfl
theorem settleTick : Statement .settleTick := rfl

end Sys2Proof.Laws.EncodableIffBus
end

