-- ==== Sys2Proof/Laws/Runs.lean ====
section
/-! SUPPORT. Runs of several cycles and the listed samples they take. -/

namespace Sys2Proof.Machine

@[simp] theorem runCycles_zero (s : State) : runCycles 0 s = .next s := rfl

/-- A run whose first step answers a next state goes on from it. -/
theorem runCycles_succ {n : Nat} {s t : State} (h : step s = .next t) : runCycles (n + 1) s = runCycles n t := by
  have h' : Sys2Proof.core.step s = .next t := h
  simp only [runCycles, Host.Core.run, h']
  rfl

/-- A run that answers a next state took a first step and went on from it. -/
theorem runCycles_succ_inv {n : Nat} {s u : State} (h : runCycles (n + 1) s = .next u) :
    ∃ t, step s = .next t ∧ runCycles n t = .next u := by
  cases hs : step s with
  | next t => exact ⟨t, rfl, by rw [← runCycles_succ hs]; exact h⟩
  | fault r =>
    have h' : Sys2Proof.core.step s = .fault r := hs
    simp [runCycles, Host.Core.run, h'] at h
  | refused r =>
    have h' : Sys2Proof.core.step s = .refused r := hs
    simp [runCycles, Host.Core.run, h'] at h

/-- Two runs, one after the other. -/
theorem runCycles_add {m n : Nat} {s t : State} (h : runCycles m s = .next t) :
    runCycles (m + n) s = runCycles n t := by
  induction m generalizing s with
  | zero =>
    have : s = t := by simpa using h
    rw [this, Nat.zero_add]
  | succ m ih =>
    obtain ⟨u, hu, hr⟩ := runCycles_succ_inv h
    rw [Nat.add_right_comm, runCycles_succ hu, ih hr]

/-- The coming cycle's sample meets what the listed samples meet. -/
theorem SamplesMeet.head {n : Nat} {s : State} {good : Inputs → Prop} (h : SamplesMeet (n + 1) s good) :
    good s.ports ∧ s.inputs = s.ports :: s.inputs.tail := by
  obtain ⟨hl, hg⟩ := h
  cases hi : s.inputs with
  | nil => simp [hi] at hl
  | cons p ps =>
    have hp : s.ports = p := ports_of_cons hi
    rw [hp]
    exact ⟨hg p (by simp [hi]), rfl⟩

/-- After a cycle that uses one sample up, the rest of the listed samples meet it still. -/
theorem SamplesMeet.tail {n : Nat} {s t : State} {good : Inputs → Prop} (h : SamplesMeet (n + 1) s good)
    (ht : t.inputs = s.inputs.tail) : SamplesMeet n t good := by
  obtain ⟨hl, hg⟩ := h
  cases hi : s.inputs with
  | nil => simp [hi] at hl
  | cons p ps =>
    have e : t.inputs = ps := by rw [ht, hi]; rfl
    refine ⟨by rw [e]; simpa [hi] using hl, fun q hq => hg q ?_⟩
    rw [hi, List.take_succ_cons]
    exact List.mem_cons_of_mem _ (e ▸ hq)

@[simp] theorem ticksIn_zero (s : State) : ticksIn 0 s = 0 := by simp [ticksIn]

/-- The ticks of n + 1 cycles are the first cycle's and those of the rest. -/
theorem ticksIn_succ {n : Nat} {s t : State} (hs : s.inputs = s.ports :: s.inputs.tail)
    (ht : t.inputs = s.inputs.tail) : ticksIn (n + 1) s = (if s.ports.tickMs then 1 else 0) + ticksIn n t := by
  unfold ticksIn
  rw [hs, ht, List.take_succ_cons, List.countP_cons]
  exact Nat.add_comm _ _

end Sys2Proof.Machine
end

