-- ==== Sys2Proof/Machine/HostSide.lean ====
section
/-! DEFINITION. The host's side of the bus, beside the machine: no rule of the block uses it (00_scope.md R6, R9). The
climate translation of 44_sequencer.md R258, the conversions and addresses the spec leaves OPEN, the host assembly
notation (30_encoding.md R125 to R129) as transactions, and the bench of R126 that turns its environment statements into
input samples. -/

namespace Sys2Proof.Machine

/-! ## Climate translation (R258, informative; 90_conflicts.md C5, C11) -/

/-- Climate modes of the host. -/
inductive ClimateMode where
  | off | cool | fan | dry | heat | auto
  deriving DecidableEq, Repr

/-- Climate fan modes of the host. -/
inductive ClimateFan where
  | auto | low | medium | high
  deriving DecidableEq, Repr

/-- Climate presets of the host. -/
inductive ClimatePreset where
  | none | eco | boost
  deriving DecidableEq, Repr

/-- A climate request; an absent field is "unchanged". -/
structure ClimateRequest where
  mode : Option ClimateMode
  fan : Option ClimateFan
  preset : Option ClimatePreset
  target : Option Rat

/-- The climate state the host publishes; the current temperature is in the unit of `Config.convRoom` (log 16). -/
structure ClimateState where
  mode : ClimateMode
  fan : ClimateFan
  preset : ClimatePreset
  target : Rat
  current : Int

/-- `TEMP = floor(100*v + 0.5)` (R113; an exact rational stands for the host's number, log 16). -/
def tempOfCelsius (v : Rat) : BitVec 16 := BitVec.ofNat 16 (100 * v + 1 / 2).floor.toNat

/-- REQ.MODE of a climate mode; off and absent are "unchanged" (R258). -/
def reqModeOf : Option ClimateMode → BitVec 4
  | some .cool => 1
  | some .fan => 2
  | some .dry => 3
  | some .heat => 4
  | some .auto => 5
  | some .off => 0
  | none => 0

/-- REQ.POWER of a climate mode: off powers off, any other mode powers on (R258, 90_conflicts.md C5). -/
def reqPowerOf : Option ClimateMode → BitVec 2
  | some .off => 0
  | some _ => 1
  | none => 3

/-- REQ.SPEED of a climate fan mode (R258). -/
def reqSpeedOf : Option ClimateFan → BitVec 3
  | some .auto => 0
  | some .low => 1
  | some .medium => 2
  | some .high => 5
  | none => 7

/-- REQ.ECO and REQ.TURBO of a climate preset (R258). -/
def reqPresetOf : Option ClimatePreset → BitVec 2 × BitVec 2
  | some .none => (0, 0)
  | some .eco => (1, 0)
  | some .boost => (0, 1)
  | none => (3, 3)

/-- The REQ word of a climate request (R258). -/
def climateToReq (r : ClimateRequest) : Word :=
  packReq ((r.target.map tempOfCelsius).getD 0) (reqModeOf r.mode) (reqSpeedOf r.fan) (reqPowerOf r.mode)
    (reqPresetOf r.preset).1 (reqPresetOf r.preset).2

/-- The climate mode of a logical mode (R190). -/
def climateModeOf : LogicalMode → ClimateMode
  | .cool => .cool
  | .fan => .fan
  | .dry => .dry
  | .heat => .heat
  | .auto => .auto

/-- The climate state of the words DEV0 and DEV1 (R258). -/
def climateOfViews (dev0 dev1 : Word) : ClimateState :=
  { mode := if dev0.getLsbD 0 then climateModeOf (modeOf (dev0.extractLsb' 4 3)) else .off
    fan :=
      if dev0.extractLsb' 12 2 = 1 then .low else if dev0.extractLsb' 12 2 = 2 then .medium
      else if dev0.extractLsb' 12 2 = 3 then .high else .auto
    preset :=
      if dev0.extractLsb' 14 2 = 1 then .eco else if dev0.extractLsb' 14 2 = 2 then .boost else .none
    target := (dev0.extractLsb' 16 8).toNat + if dev0.getLsbD 3 then 1 / 2 else 0
    current := Config.convRoom (dev1.extractLsb' 0 8) }

/-- The host's readings of the four raw bytes of DEV1: room, pipe, outdoor, outdoor-pipe (R9, 10_state.md R57). -/
def rawTemperatures (dev1 : Word) : List Int :=
  [Config.convRoom (dev1.extractLsb' 0 8), Config.convPipe (dev1.extractLsb' 8 8),
    Config.convOut (dev1.extractLsb' 16 8), Config.convOutpipe (dev1.extractLsb' 24 8)]

/-! ## Host statements (R125, R127) -/

/-- The register names of the notation (R127). -/
inductive HostReg where
  | ctrl | req | status | evt | ien | dev0 | dev1 | now | tLastPoll | tLastCmd | tmr0 | tmr1
  | cmdbuf (k : Nat)
  | rxbuf (k : Nat)
  deriving DecidableEq, Repr

/-- The byte offset a name stands for (R127, 10_state.md R59). -/
def HostReg.offset : HostReg → BitVec 8
  | .ctrl => 0x00
  | .req => 0x04
  | .status => 0x08
  | .evt => 0x0C
  | .ien => 0x10
  | .dev0 => 0x14
  | .dev1 => 0x18
  | .now => 0x1C
  | .tLastPoll => 0x20
  | .tLastCmd => 0x24
  | .tmr0 => 0x28
  | .tmr1 => 0x2C
  | .cmdbuf k => BitVec.ofNat 8 (0x40 + 4 * k)
  | .rxbuf k => BitVec.ofNat 8 (0x80 + 4 * k)

/-- The register's address on the host, relative to the OPEN base (20_memory.md R86). -/
def HostReg.hostAddress (r : HostReg) : Nat := Config.dufcBase + r.offset.toNat

/-- A host statement (R125). -/
inductive HostStmt where
  | wr (reg : HostReg) (imm : Word)
  | rd (reg : HostReg)
  | poll (reg : HostReg) (mask value : Word)
  | wait (n : Nat)
  deriving DecidableEq, Repr

/-- The transaction a statement puts on the bus in a cycle; WAIT puts none (R125, R115). -/
def HostStmt.txn : HostStmt → Option Txn
  | .wr r v => some (txnField 1#1 40 ||| txnField r.offset 32 ||| txnField v 0)
  | .rd r => some (txnField r.offset 32)
  | .poll r _ _ => some (txnField r.offset 32)
  | .wait _ => none

/-- A POLL ends on a read value v with `(v & mask) = value` (R125). -/
def pollEnds (mask value v : Word) : Bool := v &&& mask = value

/-- `APPLY` with its keywords; an absent keyword takes its "unchanged" value (R128). -/
def pseudoApply (power : Option (BitVec 2)) (mode : Option (BitVec 4)) (temp : Option Rat) (speed : Option (BitVec 3))
    (eco turbo : Option (BitVec 2)) : List HostStmt :=
  [.wr .req (packReq ((temp.map tempOfCelsius).getD 0) (mode.getD 0) (speed.getD 7) (power.getD 3) (eco.getD 3)
    (turbo.getD 3)), .wr .ctrl 1]

/-- `REFRESH` (R129). -/
def pseudoRefresh : List HostStmt := [.wr .ctrl 2]
/-- `WAITDONE` (R129). -/
def pseudoWaitdone : List HostStmt := [.poll .evt 1 1, .wr .evt 1]
/-- `CLREVT` (R129). -/
def pseudoClrevt : List HostStmt := [.wr .evt 0x3F]
/-- `WAITIDLE` (R129). -/
def pseudoWaitidle : List HostStmt := [.poll .status 8 0]

/-! ## The bench of the environment statements (R126) -/

/-- The machine with the external receive FIFO and the level of tx_ready. -/
structure Bench where
  machine : State
  fifo : List Byte
  txReady : Bool

/-- `DEV b0 b1 …`: the bytes join the FIFO (R126). -/
def Bench.dev (b : Bench) (bytes : List Byte) : Bench := { b with fifo := b.fifo ++ bytes }

/-- The input ports of a cycle: the byte at the head of the FIFO is offered, `txn` is on the bus (R126). -/
def Bench.inputs (b : Bench) (tick : Bool) (txn : Option Txn) : Inputs :=
  { (Inputs.quiet.withTxn (txn.getD 0)) with
    tickMs := tick, txReady := b.txReady, rxValid := !b.fifo.isEmpty, rxData := b.fifo.headD 0 }

/-- One cycle: a byte offered is consumed in a cycle with rx_ready = 1 (10_state.md R62). -/
def Bench.cycle (b : Bench) (tick : Bool) (txn : Option Txn) : Option Bench :=
  match clockEdge (b.inputs tick txn) b.machine with
  | .next t => some { b with machine := t, fifo := if b.machine.rxReady then b.fifo.tail else b.fifo }
  | .fault _ => none
  | .refused _ => none

end Sys2Proof.Machine
end

