-- ==== Sys2Proof/Tests/Slice0.lean ====
section
/-! SUPPORT. Tests. Expected values are those of spec/95_test_vectors.md (named V-…) or computed by hand from the rule
named; template Z (all zero) unless a test says otherwise. The second half holds, for every statement with hypotheses, a
state and operands that meet them. -/

namespace Sys2Proof.Tests

open Sys2Proof Sys2Proof.Machine

/-! ## Helpers -/

/-- `f` of the next state, if there is one. -/
def seen {α : Type} (f : State → α) : Host.Outcome State Fault Refusal → Option α
  | .next t => some (f t)
  | .fault _ => none
  | .refused _ => none

/-- The fault answered, if any. -/
def faultOf : Host.Outcome State Fault Refusal → Option Fault
  | .fault r => some r
  | .next _ => none
  | .refused _ => none

/-- An outcome that shows something is a next state. -/
theorem next_of_seen {o : Host.Outcome State Fault Refusal} (h : (seen (fun _ => ()) o).isSome = true) :
    ∃ t, o = .next t := by
  cases o with
  | next t => exact ⟨t, rfl⟩
  | fault r => exact absurd h (by simp [seen])
  | refused r => exact absurd h (by simp [seen])

/-- The reset state in another sequencer state, with template Z. -/
def base (q : SeqState) : State := { State.reset with cmd := Vector.replicate 35 0x00, seqState := q }

/-- `base` with `n` equal samples listed. -/
def fed (n : Nat) (p : Inputs) (q : SeqState) : State := { base q with inputs := List.replicate n p }

/-- A quiet sample with a tick. -/
def tick : Inputs := { Inputs.quiet with tickMs := true }

/-- A quiet sample in which the UART takes a byte. -/
def taking : Inputs := { Inputs.quiet with txReady := true }

/-- A quiet sample that offers a byte. -/
def offering (b : Byte) : Inputs := { Inputs.quiet with rxValid := true, rxData := b }

/-- A receive buffer with the listed bytes, every other byte 0x00. -/
def buffer (l : List (Nat × Byte)) : Vector Byte Config.kRxCap :=
  l.foldl (fun v e => v.setIfInBounds e.1 e.2) rxbufZero

/-- A full status frame `BB 01 … b7 b8 b9` about to be decoded. -/
def reply (b7 b8 b9 : Byte) : State :=
  { base .decode with rxbuf := buffer [(0, 0xBB), (1, 0x01), (7, b7), (8, b8), (9, b9)], rxCnt := 80 }

/-- The bytes of CMD the vectors list: 7 to 11 and 34. -/
def frameBytes (t : State) : List Byte := [7, 8, 9, 10, 11, 34].map t.cmdByte

/-- What the vectors list after a decode: DEV0 and DEV1. -/
def devViews (t : State) : Word × Word := (dev0View t, dev1View t)

/-! ## Well-formedness: an operation with no encoding is no transaction (R119) -/

theorem test_wellFormed_refuses_internal :
    [Instr.startup, .periodic, .encode, .xorfold, .decode, .txCmdByte, .txQryByte, .pollStart, .huntByte 0xBB,
      .accByte 0x00, .capacityStop, .timeoutTick, .settleTick].map wellFormed = List.replicate 13 false := by decide

theorem test_internal_have_no_word :
    [Instr.startup, .periodic, .encode, .xorfold, .decode, .txCmdByte, .txQryByte, .pollStart, .huntByte 0xBB,
      .accByte 0x00, .capacityStop, .timeoutTick, .settleTick].map encode = List.replicate 13 none := by decide

theorem test_wellFormed_accepts_bus : wellFormed (.wrCtrlApply 3 0) = true ∧ wellFormed (.rdRxbuf19 0 7) = true := by
  decide

/-! ## Decoding, bit by bit: WE, ADDR[7:0], DATA[31:0] (R115; the words of section 7 of the vectors) -/

theorem test_decode_ctrl : decodeTxn 0b1_00000000_00000000000000000000000000000101 = .wrCtrlApply 0 1 := by decide
theorem test_decode_req : decodeTxn 0b1_00000100_00111101010100010000100011001010 = .wrReq 0 0x3D5108CA := by decide
theorem test_decode_status_lane : decodeTxn 0b0_00001001_00000000000000000000000000000000 = .rdStatus 1 0 := by decide
theorem test_decode_cmdbuf : decodeTxn 0b0_01100000_00000000000000000000000000000000 = .rdCmdbuf8 0 0 := by decide
theorem test_decode_rxbuf : decodeTxn 0b0_10001000_00000000000000000000000000000000 = .rdRxbuf2 0 0 := by decide
theorem test_decode_unmapped : decodeTxn 0b1_11010110_00000000000000000000000000000001 = .wrUnmappedD0ToDC 6 1 := by
  decide

/-- R115: bits 40 to 0 are the transaction; fewer than six bytes, or a bit above bit 40, are no transaction (log 15). -/
theorem test_decode_refuses :
    (decodeBytes [0, 0, 0, 0, 4] matches .error .truncated) ∧
    (decodeBytes [0, 0, 0, 0, 4, 2] matches .error .beyondTxn) ∧ decodeTableWord 48 0x20400000000 = none := by decide

theorem test_decodeTableWord : decodeTableWord 48 0x10C0000003F = some (.wrEvt 0 0x3F) := by decide

/-- The first step after reset runs the presented transaction: V-SEQ-01 without tx_ready. -/
theorem test_withFetchWord :
    seen (fun t => (t.evt, t.seqState, t.out.hbRdata)) (step (State.reset.withFetchWord 41 0x10000000002)) =
      some (0x08, .txQry, 0) := by decide

/-! ## CTRL (V-SEQ-01 to V-SEQ-06) -/

theorem test_ctrl_nop : seen (fun t => (t.evt, t.seqState)) (exec (.wrCtrlNop 0 0) (base .idle)) = some (0, .idle) := by
  decide
theorem test_ctrl_badop :
    seen (fun t => t.evt) (exec (.wrCtrlBadop 0 0) { base .txQry with evt := 0x08 }) = some 0x18 := by decide
theorem test_ctrl_apply_frame :
    seen frameBytes (exec (.wrCtrlApply 0 1) { base .idle with req := 0x3D5108CA }) =
      some [0x04, 0x03, 0x59, 0x05, 0x02, 0x59] := by decide
theorem test_ctrl_apply_exchange :
    seen (fun t => (t.seqState, t.origin, t.tLastCmd))
      (exec (.wrCtrlApply 0 1) { base .idle with req := 0x3D5108CA, now := 500 }) = some (.txCmd, .apply, 500) := by
  decide
theorem test_ctrl_refresh_busy :
    seen (fun t => (t.evt, t.origin)) (exec (.wrCtrlRefresh 0 0) (base .txQry)) = some (0x08, .startup) := by decide
theorem test_ctrl_refresh_idle :
    seen (fun t => (t.seqState, t.origin, t.rxByte 0, t.rxCnt, t.refCnt))
      (exec (.wrCtrlRefresh 0 0) { base .idle with rxbuf := buffer [(0, 0xBB)], rxCnt := 1, refCnt := 7 }) =
      some (.txQry, .hostRefresh, 0x00, 0, 0) := by decide

/-! ## Registers (V-BUS-01, V-BUS-02, V-ENC-08, V-SEQ-07, V-SEQ-08) -/

theorem test_reset_views :
    [statusView State.reset, dev0View State.reset, State.reset.req, hostView State.reset 0, hostView State.reset 12,
      tmr1View State.reset] = [0x0000000B, 0x00100050, 0x3F700000, 0, 0, 0] := by decide
theorem test_rdStatus :
    seen (fun t => t.out.hbRdata) (exec (.rdStatus 1 0)
      { base .idle with rxCnt := 80, lastValid := true, origin := .apply }) = some 0x000050E0 := by decide
theorem test_wrReq : seen (fun t => t.req) (exec (.wrReq 0 0xFFFFFFFF) (base .idle)) = some 0x3F7FFFFF := by decide
theorem test_rdReq : seen (fun t => t.out.hbRdata) (exec (.rdReq 0 0) (base .idle)) = some 0x3F700000 := by decide
theorem test_wrEvt : seen (fun t => t.evt) (exec (.wrEvt 0 0x01) { base .idle with evt := 0x03 }) = some 0x02 := by
  decide
theorem test_wrIen :
    seen (fun t => (ienView t, t.irq)) (exec (.wrIen 0 0xFFFFFFFF) { base .idle with evt := 0x02 }) =
      some (0x3F, true) := by decide
theorem test_wrIen_masks :
    seen (fun t => t.irq) (exec (.wrIen 0 0x3D) { base .idle with evt := 0x02 }) = some false := by decide
theorem test_rdTmr0 :
    seen (fun t => t.out.hbRdata) (exec (.rdTmr0 0 0) { base .idle with tmoCnt := 500, setCnt := 700 }) =
      some 0x02BC01F4 := by decide
theorem test_wrNow_ignored :
    seen (fun t => (t.now, t.out.hbRdata)) (exec (.wrNow 0 9) { base .idle with now := 5 }) = some (5, 5) := by decide

/-! ## Windows (R291, R293, P2, P3) -/

theorem test_rdCmdbuf8 :
    seen (fun t => t.out.hbRdata) (exec (.rdCmdbuf8 0 0)
      { base .idle with cmd := (Vector.replicate 35 0x11).setIfInBounds 34 0x6F }) = some 0x006F1111 := by decide
theorem test_rdRxbuf0 :
    seen (fun t => t.out.hbRdata) (exec (.rdRxbuf0 0 0)
      { base .idle with rxbuf := buffer [(0, 0xBB), (1, 0x02), (2, 0x11), (3, 0x22)] }) = some 0x221102BB := by decide
theorem test_rdRxbuf19 :
    seen (fun t => t.out.hbRdata) (exec (.rdRxbuf19 0 0) { base .idle with rxbuf := buffer [(79, 0xAB)] }) =
      some 0xAB000000 := by decide
theorem test_unmapped :
    seen (fun t => t.out.hbRdata) (exec (.rdUnmapped64 0 0) { base .idle with cmd := Vector.replicate 35 0xFF }) =
      some 0 := by decide

/-! ## ENCODE and XORFOLD (V-ENC, V-CSUM) -/

/-- V-ENC-02 to V-ENC-06 and V-ENC-10: flags, fallbacks and the kept half bit. -/
theorem test_encode_flags :
    [ (0x3F700000, DeviceState.reset),
      (0x17700000, DeviceState.reset),
      (0x3F700000, { DeviceState.reset with power := true, eco := true, turbo := true }),
      (0x00700000, { DeviceState.reset with power := true, eco := true, turbo := true }),
      (0x2A700000, { DeviceState.reset with power := true, turbo := true }) ].map
      (fun c : Word × DeviceState => seen frameBytes (exec .encode { base .idle with req := c.1, ds := c.2 })) =
    [some [0x00, 0x08, 0x5F, 0x00, 0x00, 0x57], some [0x80, 0x48, 0x5F, 0x00, 0x00, 0x97],
      some [0x84, 0x48, 0x5F, 0x00, 0x00, 0x93], some [0x00, 0x08, 0x5F, 0x00, 0x00, 0x57],
      some [0x04, 0x48, 0x5F, 0x00, 0x00, 0x13]] := by decide

/-- V-ENC-P1: template TB keeps every template bit. -/
theorem test_encode_template :
    seen frameBytes (exec .encode { base .idle with
      req := 0x3D5108CA
      cmd := (((Vector.replicate 35 0x00).setIfInBounds 7 0x7B).setIfInBounds 8 0xBF).setIfInBounds 11 0xFD }) =
    some [0x7F, 0xB3, 0x59, 0x05, 0xFF, 0x6F] := by decide

/-- V-ENC-T01 to V-ENC-T14 but for those alike: command byte 9 at the temperature boundaries. -/
theorem test_temp_code :
    ([1500, 1501, 1549, 1599, 1600, 2250, 3100, 3199, 3200, 0, 65535].map fun c =>
      tempCode (0x3F700000 ||| BitVec.ofNat 32 c) DeviceState.reset) =
    [0x5F, 0x60, 0x60, 0x60, 0x5F, 0x59, 0x50, 0x50, 0x5F, 0x5F, 0x5F] := by decide

/-- V-ENC-T01, T03, T04, T06, T08, T12: the half bit, the previous one being 1. -/
theorem test_half_bit :
    ([1500, 1548, 1549, 1600, 2249, 3200].map fun c => halfSel (0x3F700000 ||| BitVec.ofNat 32 c) true) =
    [true, false, true, false, true, true] := by decide

/-- V-ENC-M0 to M6, DS_MODE = 2, and V-ENC-S0 to S6, DS_SPEED = 3. -/
theorem test_mode_and_speed_codes :
    ([0, 1, 2, 3, 4, 5, 6, 15].map fun m =>
      modeCode (modeSel (packReq 0 m 7 3 3 3) { DeviceState.reset with mode := 2 })) = [7, 3, 7, 2, 1, 8, 7, 7] ∧
    ([0, 1, 2, 3, 4, 5, 6, 7].map fun v =>
      speedCode (speedSel (packReq 0 0 v 3 3 3) { DeviceState.reset with speed := 3 })) = [0, 2, 6, 3, 7, 5, 3, 3] := by
  decide

/-- V-CSUM-01 and V-CSUM-04. -/
theorem test_xorFold : xorFold [0x04, 0x03, 0x59, 0x05, 0x02] 0 4 = 0x59 ∧ xorFold (List.replicate 34 0) 0 33 = 0 := by
  decide

/-- V-CSUM-06. -/
theorem test_xorfold :
    seen (fun t => t.cmdByte 34) (exec .xorfold { base .idle with
      cmd := ((((Vector.replicate 35 0x00).setIfInBounds 7 0x7F).setIfInBounds 8 0xB3).setIfInBounds 9 0x59).setIfInBounds
        10 0x05 |>.setIfInBounds 11 0xFF }) = some 0x6F := by decide

/-! ## DECODE (V-DEC) -/

/-- V-DEC-01. -/
theorem test_decode_reply1 :
    seen devViews (exec .decode { base .decode with
      rxCnt := 80
      rxbuf := buffer [(0, 0xBB), (1, 0x01), (7, 0x50), (8, 0xC6), (9, 0x02), (17, 0x41), (30, 0x32), (36, 0x1E),
        (37, 0x28)] }) = some (0x0016625B, 0x281E3241) := by decide +kernel

/-- V-DEC-F1, F2, F3, F4, F6 and V-DEC-M1, M4: flags, preset and mode. -/
theorem test_decode_byte7 :
    ([0x40, 0x80, 0xC0, 0xD5, 0x04, 0x11, 0x1F].map fun b => seen dev0View (exec .decode (reply b 0x86 0))) =
    [some 0x00164052, some 0x00168054, some 0x00164056, some 0x00164057, some 0x00160040, some 0x00160011,
      some 0x00160051] := by decide +kernel

/-- V-DEC-S8 to V-DEC-SX, DS_SPEED = 4 before. -/
theorem test_decode_fan :
    ([0x86, 0x96, 0xC6, 0xA6, 0xD6, 0xB6, 0x76, 0xE6].map fun b =>
      seen dev0View (exec .decode { reply 0x15 b 0 with ds := { DeviceState.reset with speed := 4 } })) =
    [some 0x00160051, some 0x00161151, some 0x00162251, some 0x00163351, some 0x00163451, some 0x00163551,
      some 0x00163451, some 0x00163451] := by decide +kernel

/-- V-DEC-N1 to N4: the four NotAReply buffers leave DS, clear LAST_VALID and raise NOTREPLY and DONE. -/
theorem test_decode_not_a_reply :
    ([buffer [(0, 0xBA), (1, 0x01), (7, 0x50)], buffer [(0, 0xBB), (1, 0x02)], rxbufZero, buffer [(0, 0xBB)]].map fun v =>
      seen (fun t => (dev0View t, t.evt, t.lastValid)) (exec .decode { base .decode with rxbuf := v, lastValid := true })) =
    List.replicate 4 (some (0x00100050, 0x05, false)) := by decide

/-! ## Transport (V-FS) and the sequencer (V-SEQ) -/

/-- V-FS-11. -/
theorem test_txCmdByte_last :
    seen (fun t => (t.seqState, t.setCnt, t.txIdx, t.wireTx))
      (exec .txCmdByte { base .txCmd with
        txIdx := 34, setCnt := 5, cmd := (Vector.replicate 35 0x11).setIfInBounds 34 0x6F }) =
      some (.settle, 0, 0, [0x6F]) := by decide

/-- V-FS-08 without the tick: the byte itself is QUERY_FRAME[7]. -/
theorem test_txQryByte_last :
    seen (fun t => (t.seqState, t.tmoCnt, t.txIdx, t.wireTx.length)) (exec .txQryByte { base .txQry with txIdx := 7 }) =
      some (.hunt, 0, 0, 1) := by decide

/-- V-FS-08: the tick of the cycle that enters HUNT is not counted there. -/
theorem test_entry_tick :
    seen (fun t => (t.seqState, t.tmoCnt, t.refCnt, t.now))
      (step { fed 1 { taking with tickMs := true } .txQry with txIdx := 7 }) = some (.hunt, 0, 1, 1) := by decide

theorem test_pollStart :
    seen (fun t => (t.txIdx, t.rxCnt, t.refCnt, t.rxByte 3, t.seqState))
      (exec .pollStart { base .idle with txIdx := 3, rxCnt := 4, refCnt := 9, rxbuf := buffer [(3, 0x22)] }) =
      some (0, 0, 0, 0x00, .idle) := by decide

/-- V-FS-07 and the marker. -/
theorem test_huntByte :
    seen (fun t => (t.seqState, t.rxCnt)) (exec (.huntByte 0x01) (base .hunt)) = some (.hunt, 0) ∧
    seen (fun t => (t.seqState, t.rxCnt, t.rxByte 0)) (exec (.huntByte 0xBB) (base .hunt)) = some (.acc, 1, 0xBB) := by
  decide

/-- V-FS-06. -/
theorem test_accByte :
    seen (fun t => (t.seqState, t.rxCnt, t.rxByte 5)) (exec (.accByte 0xBB) { base .acc with rxCnt := 5 }) =
      some (.acc, 6, 0xBB) := by decide

theorem test_accByte_fault :
    faultOf (exec (.accByte 0) { base .acc with rxCnt := 80 }) = some .rxIndexBeyondBuffer := by decide

/-- V-FS-13. -/
theorem test_capacityStop :
    seen (fun t => (t.seqState, t.tmoCnt, t.evt)) (step { fed 1 (offering 7) .acc with rxCnt := 79, tmoCnt := 499 }) =
      some (.decode, 499, 0) := by decide

/-- V-FS-14 and V-FS-05. -/
theorem test_timeoutTick :
    seen (fun t => (t.seqState, t.tmoCnt)) (exec .timeoutTick { base .hunt with tmoCnt := 10 }) = some (.hunt, 11) ∧
    seen (fun t => (t.seqState, t.rxCnt, t.tmoCnt, t.evt))
      (step { fed 1 { offering 7 with tickMs := true } .acc with rxCnt := 79, tmoCnt := 499 }) =
      some (.decode, 80, 500, 0x20) := by decide

/-- V-FS-04. -/
theorem test_marker_and_timeout :
    seen (fun t => (t.seqState, t.rxCnt, t.tmoCnt, t.evt))
      (step { fed 1 { offering 0xBB with tickMs := true } .hunt with tmoCnt := 499 }) =
      some (.decode, 1, 500, 0x20) := by decide

/-- V-FS-10. -/
theorem test_settleTick :
    seen (fun t => (t.seqState, t.setCnt, t.refCnt, t.now)) (step { fed 1 tick .settle with setCnt := 699, refCnt := 1000 })
      = some (.txQry, 700, 0, 1) ∧
    seen (fun t => (t.seqState, t.setCnt)) (exec .settleTick { base .settle with setCnt := 698 }) =
      some (.settle, 699) := by decide

/-- V-SEQ-09 and R242. -/
theorem test_periodic :
    seen (fun t => (t.seqState, t.refCnt, t.refDue)) (step { fed 1 tick .idle with refCnt := 29999 }) =
      some (.idle, 30000, true) ∧
    seen (fun t => (t.seqState, t.origin, t.refCnt)) (exec .periodic { base .idle with refCnt := 30000 }) =
      some (.txQry, .periodic, 0) := by decide

/-- R66, R330. -/
theorem test_startup :
    seen (fun t => (t.seqState, t.origin, t.req, dev0View t)) (exec .startup { base .acc with req := 0, origin := .apply })
      = some (.txQry, .startup, 0x3F700000, 0x00100050) := by decide

/-- V-SEQ-07: an event of the DECODE cycle wins over the host's clear. -/
theorem test_set_wins_over_clear :
    seen (fun t => t.evt)
      (step { reply 0x50 0xC0 0 with inputs := [Inputs.quiet.withBus true 0x0C 0x01] }) = some 0x03 := by decide

/-- TEMP of 22.5 °C (R113). -/
theorem test_tempOfCelsius : tempOfCelsius (45 / 2) = 2250 := by
  have h : (100 * (45 / 2 : Rat) + 1 / 2).floor = 2250 := by
    rw [show (100 * (45 / 2 : Rat) + 1 / 2) = 4501 / 2 by norm_num, Rat.floor_def]
    norm_num
  unfold tempOfCelsius
  rw [h]
  rfl

/-- V-SRC-A: Scenario A's climate request (R258). -/
theorem test_climate :
    climateToReq { mode := some .cool, fan := some .high, preset := none, target := some (45 / 2) } = 0x3D5108CA := by
  simp only [climateToReq, Option.map_some, Option.getD_some, test_tempOfCelsius]
  decide

/-! ## Witnesses: for each statement with hypotheses, states and operands that meet them -/

section Witnesses

/-- No array index is out of range outside the transmit states and ACC. -/
theorem indexInRange_of {s : State} (h1 : s.seqState ≠ .txCmd) (h2 : s.seqState ≠ .txQry) (h3 : s.seqState ≠ .acc) :
    IndexInRange s :=
  ⟨fun h => absurd h h1, fun h => absurd h h2, fun h => absurd h h3⟩

theorem witness_DecodeOfEncode : wellFormed (.wrCtrlApply 3 0x3FFFFFFF) = true ∧
    wellFormed (.wrUnmappedE0ToFC 0x1F 0xFFFFFFFF) = true := by decide

theorem witness_ResetHeld :
    (fed 2 { Inputs.quiet with rst := true } .acc).ports.rst = true ∧ 1 ≤ 2 ∧
    SamplesMeet 2 (fed 2 { Inputs.quiet with rst := true } .acc) (fun p => p.rst = true) ∧
    (fed 2 { Inputs.quiet with rst := true } .acc).inputs[2 - 1]? = some { Inputs.quiet with rst := true } :=
  ⟨rfl, by decide, ⟨by decide, by decide⟩, rfl⟩

theorem witness_CtrlWithoutExchange :
    (0xFFFFFFFC : Word).extractLsb' 0 2 = 0 ∧ IndexInRange (base .idle) ∧ Inputs.quiet.rst = false ∧
    (0x03 : BitVec 8).extractLsb' 2 6 = 0 ∧ (0xFFFFFFFF : Word).extractLsb' 0 2 = 3 :=
  ⟨by decide, indexInRange_of (by decide) (by decide) (by decide), rfl, by decide, by decide⟩

theorem witness_OperationsAcceptedInIdle : (base .idle).seqState = .idle := rfl

theorem witness_BusyOperationsDropped :
    IndexInRange (base .decode) ∧ (base .decode).seqState ≠ .idle ∧ Inputs.quiet.rst = false ∧
    (0x02 : BitVec 8).extractLsb' 2 6 = 0 ∧ (0x5 : Word).extractLsb' 0 2 = 1 ∧ (0x6 : Word).extractLsb' 0 2 = 2 :=
  ⟨indexInRange_of (by decide) (by decide) (by decide), by decide, rfl, by decide, by decide, by decide⟩

/-- A quiet IDLE cycle, a cycle that reads REQ and a busy cycle that writes REQ, the cases of the statement's two
conditions on the host's access. -/
theorem witness_RequestReachesOnlyApply :
    (IndexInRange (base .idle) ∧ Inputs.quiet.rst = false ∧
      ¬ ((base .idle).seqState = .idle ∧ hostOp Inputs.quiet = 1)) ∧
    ((Inputs.quiet.withBus false 0x04 0).rst = false ∧ hostReg (Inputs.quiet.withBus false 0x04 0) = 1 ∧
      ¬ ((base .idle).seqState = .idle ∧ hostOp (Inputs.quiet.withBus false 0x04 0) = 1)) ∧
    (IndexInRange (base .settle) ∧ (Inputs.quiet.withBus true 0x04 0x3D5108CA).rst = false ∧
      (Inputs.quiet.withBus true 0x04 0x3D5108CA).hbWe = true ∧
      hostReg (Inputs.quiet.withBus true 0x04 0x3D5108CA) = 1 ∧
      ¬ ((base .settle).seqState = .idle ∧ hostOp (Inputs.quiet.withBus true 0x04 0x3D5108CA) = 1)) :=
  ⟨⟨indexInRange_of (by decide) (by decide) (by decide), rfl, by decide⟩, ⟨rfl, by decide, by decide⟩,
    indexInRange_of (by decide) (by decide) (by decide), rfl, rfl, by decide, by decide⟩

theorem witness_EventAcknowledge :
    IndexInRange (fed 1 (Inputs.quiet.withBus true 0x0C 1) .decode) ∧
    (fed 1 (Inputs.quiet.withBus true 0x0C 1) .decode).ports.rst = false ∧
    (fed 1 (Inputs.quiet.withBus true 0x0C 1) .decode).ports.hbWe = true ∧
    hostReg (fed 1 (Inputs.quiet.withBus true 0x0C 1) .decode).ports = 3 ∧
    { base .idle with evt := 0x02 }.evt &&& (0x3D : BitVec 6) = 0 :=
  ⟨indexInRange_of (by decide) (by decide) (by decide), rfl, rfl, by decide, by decide⟩

theorem witness_ReadsReturnOldValueWithoutEffect :
    IndexInRange (fed 1 tick .hunt) ∧ (fed 1 tick .hunt).ports.rst = false ∧ tick.rst = false ∧ tick.hbWe = false :=
  ⟨indexInRange_of (by decide) (by decide) (by decide), rfl, rfl, rfl⟩

theorem witness_WindowByteOrder : 34 < 35 ∧ (35 ≤ 35 ∧ 35 ≤ 37) ∧ (35 ≤ 37 ∧ 37 ≤ 37) ∧ 79 < 80 := by decide

theorem witness_EncodeWritesFrame : (6 ≤ 6 ∨ (12 ≤ 6 ∧ 6 ≤ 33)) ∧ (12 ≤ 6 ∨ (12 ≤ 12 ∧ 12 ≤ 33)) ∧
    (33 ≤ 6 ∨ (12 ≤ 33 ∧ 33 ≤ 33)) := by decide

theorem witness_FallbackProperty :
    State.reset.req = 0x3F700000 ∧ (1 ≤ State.reset.ds.mode.toNat ∧ State.reset.ds.mode.toNat ≤ 5) ∧
    State.reset.ds.speed.toNat ≤ 5 := by decide

theorem witness_RepeatedApplyAgrees :
    (1500 < (reqTemp 0x3F7005DD).toNat ∧ (reqTemp 0x3F7005DD).toNat < 3200) ∧
    (1500 < (reqTemp 0x3F700C7F).toNat ∧ (reqTemp 0x3F700C7F).toNat < 3200) := by decide

theorem witness_XorFoldMeaning :
    0 < 1 ∧ 4 < ([0x04, 0x03, 0x59, 0x05, 0x02] : List Byte).length ∧
    3 + 1 < ([0x04, 0x03, 0x59, 0x05, 0x02] : List Byte).length ∧ 3 ≤ 3 ∧
    ([0x04, 0x03] : List Byte).Perm [0x03, 0x04] :=
  ⟨by decide, by decide, by decide, by decide, List.Perm.swap _ _ _⟩

theorem witness_ChecksumProperty :
    (33 ≤ 33 ∧ 32 ≤ 33 ∧ 33 ≠ 32 ∧ (0x01 : Byte) ≠ State.cmdByte (base .idle) 33) ∧
    IndexInRange (fed 1 tick .idle) ∧ (fed 1 tick .idle).ports.rst = false ∧
    ¬ ((fed 1 tick .idle).seqState = .idle ∧ hostOp (fed 1 tick .idle).ports = 1) ∧ checksumOk (fed 1 tick .idle) :=
  ⟨by decide, indexInRange_of (by decide) (by decide) (by decide), rfl, by decide, by unfold checksumOk; decide⟩

theorem witness_DecodeValidReply :
    (reply 0x50 0xC6 0x02).seqState = .decode ∧ (reply 0x50 0xC6 0x02).rxByte 0 = 0xBB ∧
    (reply 0x50 0xC6 0x02).rxByte 1 = 0x01 ∧ (base .decode).seqState = .decode ∧
    ¬ ((base .decode).rxByte 0 = 0xBB ∧ (base .decode).rxByte 1 = 0x01) := by decide

theorem witness_DecodeNotAReply :
    (fed 1 tick .decode).seqState = .decode ∧
    ¬ ((fed 1 tick .decode).rxByte 0 = 0xBB ∧ (fed 1 tick .decode).rxByte 1 = 0x01) ∧
    (fed 1 tick .decode).ports.rst = false ∧
    ¬ ((fed 1 tick .decode).ports.hbWe = true ∧ hostReg (fed 1 tick .decode).ports = 1) ∧
    hostOp (fed 1 tick .decode).ports = 0 := by decide

/-- V-DEC-N5: a valid frame of `n` bytes. -/
def partialFrame (n : BitVec 7) : State :=
  { base .decode with rxbuf := buffer [(0, 0xBB), (1, 0x01)], rxCnt := n }

theorem partialFrame_byte (n : BitVec 7) (i : Nat) (hi : 2 ≤ i) : (partialFrame n).rxByte i = 0 := by
  have h0 : ¬ 0 = i := by omega
  have h1 : ¬ 1 = i := by omega
  show ((rxbufZero.setIfInBounds 0 0xBB).setIfInBounds 1 0x01)[i]?.getD 0 = 0
  rw [getD_setIfInBounds _ _ _ _ (by decide), if_neg h1, getD_setIfInBounds _ _ _ _ (by decide), if_neg h0]
  exact getD_rxbufZero i

theorem partialFrame_inv (n : BitVec 7) (h2 : 2 ≤ n.toNat) (h80 : n.toNat ≤ 80) : Inv (partialFrame n) where
  modeLegal := (by decide : 1 ≤ (base .decode).ds.mode.toNat ∧ (base .decode).ds.mode.toNat ≤ 5)
  speedLegal := (by decide : (base .decode).ds.speed.toNat ≤ 5)
  setptLegal := (by decide : 16 ≤ (base .decode).ds.setptInt.toNat ∧ (base .decode).ds.setptInt.toNat ≤ 31)
  rxCntLegal := h80
  txCmdIdx := fun h => absurd h (by decide : (base .decode).seqState ≠ .txCmd)
  txQryIdx := fun h => absurd h (by decide : (base .decode).seqState ≠ .txQry)
  txIdxElsewhere := fun _ _ => rfl
  noByteYet := fun h => absurd h (by decide : ¬ ((base .decode).seqState = .txQry ∨ (base .decode).seqState = .hunt))
  bufferClear := fun h => absurd h (by decide : ¬ ((base .decode).seqState = .txQry ∨ (base .decode).seqState = .hunt))
  markerFirst := fun _ => ⟨fun _ => le_trans (by decide) h2, fun _ => (by decide : (partialFrame 2).rxByte 0 = Config.kStart)⟩
  zeroBeyond := fun _ i _ hi => partialFrame_byte n i (le_trans h2 hi)
  accCount := fun h => absurd h (by decide : (base .decode).seqState ≠ .acc)
  tmoLegal := (by decide : (base .decode).tmoCnt.toNat ≤ 500)
  tmoReading := fun h => absurd h (by decide : ¬ ((base .decode).seqState = .hunt ∨ (base .decode).seqState = .acc))
  setLegal := (by decide : (base .decode).setCnt.toNat ≤ 700)
  setSettling := fun h => absurd h (by decide : (base .decode).seqState ≠ .settle)
  refLegal := (by decide : (base .decode).refCnt.toNat ≤ 30000)
  reqReserved := (by decide : (base .decode).req &&& ~~~ reqMask = 0)

/-- The shortest and the longest partial frame of the statement. -/
theorem witness_PartialFrameDecodesZeros :
    (Inv (partialFrame 2) ∧ 2 ≤ (2 : BitVec 7).toNat ∧ (2 : BitVec 7).toNat ≤ 7) ∧
    (Inv (partialFrame 37) ∧ (37 : BitVec 7).toNat < 38) ∧ (partialFrame 37).seqState = .decode ∧
    (partialFrame 37).rxByte 0 = 0xBB ∧ (partialFrame 37).rxByte 1 = 0x01 :=
  ⟨⟨partialFrame_inv 2 (by decide) (by decide), by decide, by decide⟩,
    ⟨partialFrame_inv 37 (by decide) (by decide), by decide⟩, rfl, by decide, by decide⟩

/-- V-RT-01: power on, cool, speed 5, 22.50 °C. -/
theorem witness_RoundTrip :
    (1 ≤ (1 : BitVec 4).toNat ∧ (1 : BitVec 4).toNat ≤ 5) ∧ (5 : BitVec 3).toNat ≤ 5 ∧
    (1500 < (2250 : BitVec 16).toNat ∧ (2250 : BitVec 16).toNat < 3200) ∧ 16 ≤ (2250 : BitVec 16).toNat / 100 ∧
    (reply 0x11 0xB6 0x02).seqState = .decode ∧ (reply 0x11 0xB6 0x02).rxByte 0 = 0xBB ∧
    (reply 0x11 0xB6 0x02).rxByte 1 = 0x01 ∧
    (reply 0x11 0xB6 0x02).rxByte 7 = bitAt false 7 ||| bitAt false 6 ||| bitAt true 4 ||| (1 : BitVec 4).setWidth 8 ∧
    (reply 0x11 0xB6 0x02).rxByte 8 = ([0x80, 0x90, 0xC0, 0xA0, 0xD0, 0xB0] : List Byte).getD (5 : BitVec 3).toNat 0
      ||| BitVec.ofNat 8 ((2250 : BitVec 16).toNat / 100 - 16) ∧
    (reply 0x11 0xB6 0x02).rxByte 9 = bitAt (decide (49 ≤ (2250 : BitVec 16).toNat % 100)) 1 := by decide

theorem witness_TransmitByte :
    ({ base .txCmd with txIdx := 33 }.seqState = .txCmd ∧ { base .txCmd with txIdx := 33 }.txIdx.toNat < 34) ∧
    ({ base .txCmd with txIdx := 34 }.seqState = .txCmd ∧ { base .txCmd with txIdx := 34 }.txIdx = 34) ∧
    ({ base .txQry with txIdx := 6 }.seqState = .txQry ∧ { base .txQry with txIdx := 6 }.txIdx.toNat < 7) ∧
    ({ base .txQry with txIdx := 7 }.seqState = .txQry ∧ { base .txQry with txIdx := 7 }.txIdx = 7) := by decide

theorem witness_ReceiveByte :
    ((base .hunt).seqState = .hunt ∧ (0xBA : Byte) ≠ 0xBB) ∧ 79 < 80 ∧
    ({ base .acc with rxCnt := 79 }.seqState = .acc ∧ { base .acc with rxCnt := 79 }.rxCnt.toNat < 80) := by decide

theorem witness_ReadEnd :
    ({ base .acc with rxCnt := 80 }.seqState = .acc ∧ { base .acc with rxCnt := 80 }.rxCnt = 80) ∧
    ({ base .acc with rxCnt := 79 }.rxCnt ≠ 80) ∧
    ({ base .hunt with tmoCnt := 498 }.seqState = .hunt ∧ { base .hunt with tmoCnt := 498 }.tmoCnt.toNat + 1 < 500) ∧
    (500 ≤ { base .hunt with tmoCnt := 499 }.tmoCnt.toNat + 1 ∧ { base .hunt with tmoCnt := 499 }.tmoCnt.toNat < 1023) ∧
    (500 ≤ { base .hunt with tmoCnt := 1022 }.tmoCnt.toNat + 1 ∧
      { base .hunt with tmoCnt := 1022 }.tmoCnt.toNat < 1023) := by decide

theorem witness_SettleTick :
    (base .settle).seqState = .settle ∧ { base .settle with setCnt := 698 }.setCnt.toNat + 1 < 700 ∧
    (700 ≤ { base .settle with setCnt := 699 }.setCnt.toNat + 1 ∧
      { base .settle with setCnt := 699 }.setCnt.toNat < 1023) := by decide

theorem witness_PeriodicStart :
    { base .idle with refCnt := 30000 }.seqState = .idle ∧ 30000 ≤ { base .idle with refCnt := 30000 }.refCnt.toNat := by
  decide

theorem witness_InternalTriggersAndIndexFaults :
    ((base .idle).seqState ≠ .decode ∧ (base .idle).seqState ≠ .txCmd ∧ (base .idle).seqState ≠ .txQry ∧
      (base .idle).seqState ≠ .hunt ∧ (base .idle).seqState ≠ .acc ∧ (base .idle).seqState ≠ .settle) ∧
    ({ base .idle with refCnt := 29999 }.refCnt.toNat < 30000) ∧ ((base .acc).seqState ≠ .idle) ∧
    ({ base .acc with rxCnt := 80 }.seqState = .acc ∧ 80 ≤ { base .acc with rxCnt := 80 }.rxCnt.toNat) ∧
    ({ base .txCmd with txIdx := 35 }.seqState = .txCmd ∧ 35 ≤ { base .txCmd with txIdx := 35 }.txIdx.toNat) ∧
    ({ base .txQry with txIdx := 8 }.seqState = .txQry ∧ 8 ≤ { base .txQry with txIdx := 8 }.txIdx.toNat) := by decide

theorem witness_StepRunsDecodedTransaction :
    (∃ t u, (fed 1 tick .hunt).ports.rst = false ∧ decodeTxn (fed 1 tick .hunt).ports.txn = .rdCtrl 0 0 ∧
      exec (.rdCtrl 0 0) (fed 1 tick .hunt) = .next t ∧
      runOps (internalOps (fed 1 tick .hunt) (fed 1 tick .hunt).ports) t = .next u) ∧
    ∃ t, (fed 1 { tick with rst := true } .hunt).ports.rst = true ∧
      exec .startup (fed 1 { tick with rst := true } .hunt) = .next t := by
  obtain ⟨u, hu⟩ := next_of_seen (o := runOps (internalOps (fed 1 tick .hunt) (fed 1 tick .hunt).ports)
    ((fed 1 tick .hunt).driveRdata 0)) (by decide)
  exact ⟨⟨_, u, rfl, by decide, rfl, hu⟩, _, rfl, rfl⟩

/-- Every state of the transmit and receive engines, at its last legal index. -/
theorem witness_StepIsSpecStep :
    IndexInRange { base .txCmd with txIdx := 34 } ∧ IndexInRange { base .txQry with txIdx := 7 } ∧
    IndexInRange { base .acc with rxCnt := 79 } :=
  ⟨⟨by decide, by decide, by decide⟩, ⟨by decide, by decide, by decide⟩, ⟨by decide, by decide, by decide⟩⟩

/-- A state in range and a sample for every row of the table. -/
theorem witness_TransitionsOfTheTable :
    (∀ q : SeqState, q ≠ .txCmd → q ≠ .txQry → q ≠ .acc → IndexInRange (fed 1 Inputs.quiet q)) ∧
    Inputs.quiet = (fed 1 Inputs.quiet .idle).ports ∧ Inputs.quiet.rst = false ∧
    hostOp (Inputs.quiet.withBus true 0x00 1) = 1 ∧ hostOp (Inputs.quiet.withBus true 0x00 2) = 2 ∧
    (hostOp Inputs.quiet ≠ 1 ∧ hostOp Inputs.quiet ≠ 2) ∧
    (30000 ≤ { base .idle with refCnt := 30000 }.refCnt.toNat ∧ { base .idle with refCnt := 29999 }.refCnt.toNat < 30000) ∧
    (taking.txReady = true ∧ { base .txCmd with txIdx := 34 }.txIdx = 34 ∧ { base .txQry with txIdx := 7 }.txIdx = 7) ∧
    ¬ (Inputs.quiet.txReady = true ∧ { base .txCmd with txIdx := 34 }.txIdx = 34) ∧
    (tick.tickMs = true ∧ 700 ≤ ({ base .settle with setCnt := 699 }.setCnt + 1).toNat) ∧
    ¬ (tick.tickMs = true ∧ 700 ≤ ({ base .settle with setCnt := 698 }.setCnt + 1).toNat) ∧
    readEndsNow { base .hunt with tmoCnt := 499 } tick = true ∧
    readEndsNow { base .acc with rxCnt := 79 } (offering 7) = true ∧
    (readEndsNow (base .hunt) (offering 0xBB) = false ∧ (offering 0xBB).rxValid = true ∧ (offering 0xBB).rxData = 0xBB) ∧
    (readEndsNow (base .hunt) (offering 7) = false ∧ ¬ ((offering 7).rxValid = true ∧ (offering 7).rxData = 0xBB)) ∧
    readEndsNow { base .acc with rxCnt := 78 } (offering 7) = false :=
  ⟨fun _ h1 h2 h3 => indexInRange_of h1 h2 h3, by decide⟩

theorem witness_ReadCycleInFull :
    IndexInRange (fed 1 (offering 7) .hunt) ∧ IndexInRange { fed 1 (offering 7) .acc with rxCnt := 79 } ∧
    offering 7 = (fed 1 (offering 7) .hunt).ports ∧ (offering 7).rst = false :=
  ⟨indexInRange_of (by decide) (by decide) (by decide), ⟨by decide, by decide, by decide⟩, rfl, rfl⟩

theorem witness_EventBitsExact :
    IndexInRange (fed 1 tick .decode) ∧ tick = (fed 1 tick .decode).ports ∧ tick.rst = false :=
  ⟨indexInRange_of (by decide) (by decide) (by decide), rfl, rfl⟩

theorem witness_OutputsOfTheCycle :
    (IndexInRange { fed 1 tick .txQry with txIdx := 7 } ∧ (fed 1 tick .txQry).ports.rst = false ∧
      (fed 1 tick .txQry).ien = 0) ∧ (fed 1 { tick with rst := true } .txQry).ports.rst = true :=
  ⟨⟨⟨by decide, by decide, by decide⟩, rfl, rfl⟩, rfl⟩

theorem witness_FreeRunningCounters :
    IndexInRange { fed 1 tick .settle with setCnt := 699 } ∧ (fed 1 tick .settle).ports.rst = false :=
  ⟨indexInRange_of (by decide) (by decide) (by decide), rfl⟩

/-- A quiet IDLE cycle meets the first nine premises, a quiet SETTLE cycle the last one. -/
theorem witness_RegistersKeepTheirValue :
    tick = (fed 1 tick .idle).ports ∧ IndexInRange (fed 1 tick .idle) ∧ tick.rst = false ∧
    seen (fun t => t.seqState) (step (fed 1 tick .idle)) = some .idle ∧
    ¬ ((fed 1 tick .idle).seqState = .idle ∧ hostOp tick = 1) ∧ ¬ (tick.hbWe = true ∧ hostReg tick = 1) ∧
    (fed 1 tick .idle).seqState ≠ .decode ∧ (fed 1 tick .idle).seqState ≠ .settle ∧
    IndexInRange (fed 1 tick .settle) ∧ seen (fun t => t.seqState) (step (fed 1 tick .settle)) = some .settle :=
  ⟨rfl, indexInRange_of (by decide) (by decide) (by decide), rfl, by decide, by decide, by decide, by decide, by decide,
    indexInRange_of (by decide) (by decide) (by decide), by decide⟩

theorem witness_HostCannotDisturbExchange :
    IndexInRange (base .settle) ∧ (base .settle).seqState ≠ .idle ∧ tick.rst = false :=
  ⟨indexInRange_of (by decide) (by decide) (by decide), by decide, rfl⟩

/-- HUNT after a POLL_START, with the listed samples and the ticks counted so far. -/
def hunting (n : Nat) (p : Inputs) (t : BitVec 10) : State := { fed n p .hunt with tmoCnt := t }

theorem hunting_inv (n : Nat) (p : Inputs) (t : BitVec 10) (ht : t.toNat < 500) : Inv (hunting n p t) where
  modeLegal := (by decide : 1 ≤ (base .hunt).ds.mode.toNat ∧ (base .hunt).ds.mode.toNat ≤ 5)
  speedLegal := (by decide : (base .hunt).ds.speed.toNat ≤ 5)
  setptLegal := (by decide : 16 ≤ (base .hunt).ds.setptInt.toNat ∧ (base .hunt).ds.setptInt.toNat ≤ 31)
  rxCntLegal := (by decide : (base .hunt).rxCnt.toNat ≤ 80)
  txCmdIdx := fun h => absurd h (by decide : (base .hunt).seqState ≠ .txCmd)
  txQryIdx := fun h => absurd h (by decide : (base .hunt).seqState ≠ .txQry)
  txIdxElsewhere := fun _ _ => rfl
  noByteYet := fun _ => rfl
  bufferClear := fun _ i _ => getD_rxbufZero i
  markerFirst := fun h => absurd h (by decide : ¬ ((base .hunt).seqState = .acc ∨ (base .hunt).seqState = .decode))
  zeroBeyond := fun h => absurd h (by decide : ¬ ((base .hunt).seqState = .acc ∨ (base .hunt).seqState = .decode))
  accCount := fun h => absurd h (by decide : (base .hunt).seqState ≠ .acc)
  tmoLegal := le_of_lt ht
  tmoReading := fun _ => ht
  setLegal := (by decide : (base .hunt).setCnt.toNat ≤ 700)
  setSettling := fun h => absurd h (by decide : (base .hunt).seqState ≠ .settle)
  refLegal := (by decide : (base .hunt).refCnt.toNat ≤ 30000)
  reqReserved := (by decide : (base .hunt).req &&& ~~~ reqMask = 0)

theorem witness_InvKept : Inv (hunting 1 tick 499) ∧ ∃ t, step (hunting 1 tick 499) = .next t :=
  ⟨hunting_inv 1 tick 499 (by decide), next_of_seen (by decide)⟩

theorem witness_NoRunStops : Inv (hunting 1 tick 0) := hunting_inv 1 tick 0 (by decide)

/-- IDLE with the template in CMD and an APPLY on the bus. -/
def templateIdle : State := { fed 1 (Inputs.quiet.withBus true 0x00 1) .idle with cmd := cmdReset }

theorem templateIdle_byte (i : Nat) (h : i < 35) : templateIdle.cmdByte i = Config.cmdTemplate i := by
  simp [State.cmdByte, templateIdle, cmdReset, h]

theorem witness_TemplateKeptByStep :
    IndexInRange templateIdle ∧ TemplateKept templateIdle ∧ (∃ t, step templateIdle = .next t) ∧
    ∃ t, exec .encode templateIdle = .next t :=
  ⟨indexInRange_of (by decide) (by decide) (by decide),
    ⟨fun i h => templateIdle_byte i (by omega), by rw [templateIdle_byte 7 (by decide)],
      by rw [templateIdle_byte 8 (by decide)], by rw [templateIdle_byte 11 (by decide)]⟩,
    next_of_seen (by decide), ⟨_, rfl⟩⟩

theorem witness_TransmittedFrameHasChecksum :
    IndexInRange (fed 1 tick .txCmd) ∧ (fed 1 tick .txCmd).seqState = .txCmd ∧ checksumOk (fed 1 tick .txCmd) ∧
    ∃ t, step (fed 1 tick .txCmd) = .next t :=
  ⟨⟨by decide, by decide, by decide⟩, rfl, by unfold checksumOk; decide, next_of_seen (by decide)⟩

theorem witness_WholeFramesAreSent :
    ((fed 35 taking .txCmd).seqState = .txCmd ∧ (fed 35 taking .txCmd).txIdx = 0 ∧
      SamplesMeet 35 (fed 35 taking .txCmd) (fun p => p.rst = false ∧ p.txReady = true)) ∧
    (fed 8 taking .txQry).seqState = .txQry ∧ (fed 8 taking .txQry).txIdx = 0 ∧
      SamplesMeet 8 (fed 8 taking .txQry) (fun p => p.rst = false ∧ p.txReady = true) :=
  ⟨⟨rfl, rfl, by decide, by decide⟩, rfl, rfl, by decide, by decide⟩

theorem witness_TransmitStall :
    (fed 9 tick .txCmd).seqState = .txCmd ∧ SamplesMeet 9 (fed 9 tick .txCmd) (fun p => p.rst = false ∧ p.txReady = false) ∧
    (fed 9 tick .txQry).seqState = .txQry ∧
    SamplesMeet 9 (fed 9 tick .txQry) (fun p => p.rst = false ∧ p.txReady = false) :=
  ⟨rfl, ⟨by decide, by decide⟩, rfl, by decide, by decide⟩

theorem witness_SettleLastsItsTicks :
    { fed 3 tick .settle with setCnt := 697 }.seqState = .settle ∧
    SamplesMeet 3 { fed 3 tick .settle with setCnt := 697 } (fun p => p.rst = false) ∧
    { fed 3 tick .settle with setCnt := 697 }.setCnt.toNat + ticksIn 2 { fed 3 tick .settle with setCnt := 697 } < 700 ∧
    { fed 3 tick .settle with setCnt := 697 }.setCnt.toNat + ticksIn 2 { fed 3 tick .settle with setCnt := 697 } = 699 ∧
    ticksIn 3 { fed 3 tick .settle with setCnt := 697 } = ticksIn 2 { fed 3 tick .settle with setCnt := 697 } + 1 :=
  ⟨rfl, ⟨by decide, by decide⟩, by decide, by decide, by decide⟩

theorem witness_SilentReadTimesOut :
    Inv (hunting 4 tick 497) ∧ (hunting 4 tick 497).seqState = .hunt ∧
    SamplesMeet (2 + 2) (hunting 4 tick 497) (fun p => p.rst = false ∧ p.rxValid = false) ∧
    (hunting 4 tick 497).tmoCnt.toNat + ticksIn 2 (hunting 4 tick 497) = 499 ∧
    ticksIn (2 + 1) (hunting 4 tick 497) = ticksIn 2 (hunting 4 tick 497) + 1 :=
  ⟨hunting_inv 4 tick 497 (by decide), rfl, ⟨by decide, by decide⟩, by decide, by decide⟩

theorem witness_FullReplyIsCollected :
    (fed 80 (offering 0xBB) .hunt).seqState = .hunt ∧ (List.replicate 80 (0xBB : Byte)).length = 80 ∧
    (List.replicate 80 (0xBB : Byte)).head? = some 0xBB ∧
    SamplesMeet 80 (fed 80 (offering 0xBB) .hunt) (fun p => p.rst = false ∧ p.rxValid = true) ∧
    ((fed 80 (offering 0xBB) .hunt).inputs.take 80).map (fun p => p.rxData) = List.replicate 80 0xBB ∧
    (fed 80 (offering 0xBB) .hunt).tmoCnt.toNat + ticksIn 80 (fed 80 (offering 0xBB) .hunt) < 500 :=
  ⟨rfl, by decide, rfl, ⟨by decide, by decide⟩, by decide, by decide⟩

end Witnesses

end Sys2Proof.Tests
end

section
/-! PROOF. Bits, fields and counters of a register word (30_encoding.md R113). -/

namespace Sys2Proof.Machine

/-- A field is read back where it stands. -/
theorem fieldAt_extract {k : Nat} (v : BitVec k) {n : Nat} (h : n + k ≤ 32) : (fieldAt v n).extractLsb' n k = v := by
  apply BitVec.eq_of_getLsbD_eq
  intro i hi
  simp only [BitVec.getLsbD_extractLsb', fieldAt_getLsbD, Nat.add_sub_cancel_left]
  simp [hi, show n + i < 32 by omega]

/-- A field shows nothing outside its bits. -/
theorem fieldAt_extract_outside {k : Nat} (v : BitVec k) {n m w : Nat} (h : m + w ≤ n ∨ n + k ≤ m) :
    (fieldAt v n).extractLsb' m w = 0#w := by
  apply BitVec.eq_of_getLsbD_eq
  intro i hi
  rcases h with h | h
  · have h1 : ¬ n ≤ m + i := by omega
    simp only [BitVec.getLsbD_extractLsb', fieldAt_getLsbD, h1]
    simp
  · have h1 : k ≤ m + i - n := by omega
    simp only [BitVec.getLsbD_extractLsb', fieldAt_getLsbD, BitVec.getLsbD_of_ge v _ h1]
    simp

/-- A counter below its register's last value does not wrap. -/
theorem toNat_add_one {w : Nat} {x : BitVec w} (h : x.toNat + 1 < 2 ^ w) : (x + 1).toNat = x.toNat + 1 := by
  have h1 : (1 : BitVec w).toNat = 1 := (BitVec.toNat_ofNat 1 w).trans (Nat.mod_eq_of_lt (by omega))
  rw [BitVec.toNat_add, h1, Nat.mod_eq_of_lt h]

end Sys2Proof.Machine
end

section
/-! PROOF. The host's transaction as one effect on the state: by its word (45_host_bus.md R296), then by the ports of
the cycle (44_sequencer.md R243 to R248). -/

namespace Sys2Proof.Machine

/-- The state a transaction word leaves, but for the read data it drives (45_host_bus.md R296). -/
def hostWrites (w : Txn) (s : State) : State :=
  if txnWe w = false then s
  else if txnIndex w = 0 then
    if txnOp w = 0 then s
    else if txnOp w = 1 then acceptInIdle State.applyAccept s
    else if txnOp w = 2 then acceptInIdle State.refreshAccept s
    else s.raise .badop
  else if txnIndex w = 1 then { s with req := txnData w &&& reqMask }
  else if txnIndex w = 3 then s.clearEvents ((txnData w).extractLsb' 0 6)
  else if txnIndex w = 4 then { s with ien := (txnData w).extractLsb' 0 6 }
  else s

theorem txnIndex_lt (w : Txn) : txnIndex w < 64 := (w.extractLsb' 34 6).isLt

/-- A read returns the view of its word index. -/
theorem exec_decodeRead {k : Nat} (hk : k < 64) (w : Txn) (s : State) :
    exec (decodeRead k w) s = .next (s.driveRdata (hostView s k)) := by
  interval_cases k <;> rfl

/-- A CTRL write, by its OP field; CTRL reads 0. -/
theorem exec_decodeCtrl (w : Txn) (s : State) :
    exec (decodeCtrl w) s = .next
      ((if txnOp w = 0 then s
        else if txnOp w = 1 then acceptInIdle State.applyAccept s
        else if txnOp w = 2 then acceptInIdle State.refreshAccept s
        else s.raise .badop).driveRdata 0) := by
  unfold decodeCtrl
  split_ifs <;> rfl

/-- A write outside CTRL returns the old view and writes REQ, EVT or IEN, or nothing. -/
theorem exec_decodeWrite {k : Nat} (hk : k < 64) (h0 : k ≠ 0) (w : Txn) (s : State) :
    exec (decodeWrite k w) s = .next
      ((if k = 1 then { s with req := txnData w &&& reqMask }
        else if k = 3 then s.clearEvents ((txnData w).extractLsb' 0 6)
        else if k = 4 then { s with ien := (txnData w).extractLsb' 0 6 }
        else s).driveRdata (hostView s k)) := by
  interval_cases k
  · exact absurd rfl h0
  all_goals rfl

/-- Every transaction word drives the view at its word index and writes what `hostWrites` says. -/
theorem exec_decodeTxn (w : Txn) (s : State) :
    exec (decodeTxn w) s = .next ((hostWrites w s).driveRdata (hostView s (txnIndex w))) := by
  unfold decodeTxn hostWrites
  cases txnWe w with
  | false => exact exec_decodeRead (txnIndex_lt w) w s
  | true =>
    by_cases h0 : txnIndex w = 0
    · simpa [h0, hostView, decodeWrite] using exec_decodeCtrl w s
    · simpa [h0] using exec_decodeWrite (txnIndex_lt w) h0 w s

/-! ### From the ports -/

@[simp] theorem txnOp_txn (p : Inputs) : txnOp p.txn = p.hbWdata.extractLsb' 0 2 := by
  rw [txnOp_eq, txnData_txn]

@[simp] theorem eventIf_true (e : Event) : eventIf true e = eventBit e := rfl
@[simp] theorem eventIf_false (e : Event) : eventIf false e = 0#6 := rfl

/-- Clearing no event keeps EVT. -/
@[simp] theorem and_allEvents (e : BitVec 6) : e &&& 63#6 = e := BitVec.and_allOnes

/-- The events the host's transaction raises: DROPPED (44_sequencer.md R246) and BADOP (R247). -/
def hostEvents (s : State) (p : Inputs) : BitVec 6 :=
  eventIf ((hostOp p = 1 ∨ hostOp p = 2) ∧ s.seqState ≠ .idle) .dropped ||| eventIf (hostOp p = 3) .badop

/-- The registers the host writes, and the read data: all its transaction changes but for an accepted operation. -/
def hostRegs (s : State) (p : Inputs) : State :=
  { s with
    req := if p.hbWe ∧ hostReg p = 1 then p.hbWdata &&& reqMask else s.req
    evt := (s.evt &&& ~~~ hostClears p) ||| hostEvents s p
    ien := if p.hbWe ∧ hostReg p = 4 then p.hbWdata.extractLsb' 0 6 else s.ien
    out := { s.out with hbRdata := hostView s (hostReg p) } }

/-- The state the host's transaction leaves: the registers it writes, and an operation accepted in IDLE. -/
def afterHost (s : State) (p : Inputs) : State :=
  if applyNow s p then (hostRegs s p).applyAccept
  else if refreshNow s p then (hostRegs s p).refreshAccept else hostRegs s p

/-- Outside IDLE no operation of the host is accepted. -/
theorem afterHost_busy {s : State} {p : Inputs} (hq : s.seqState ≠ .idle) : afterHost s p = hostRegs s p := by
  simp [afterHost, applyNow, refreshNow, hq]

/-- A cycle without a CTRL write carries no operation code. -/
theorem hostOp_of_noCtrl {p : Inputs} (h : ¬ (p.hbWe = true ∧ hostReg p = 0)) : hostOp p = 0 := if_neg h

/-- An operation code other than 0 stands in a write to CTRL. -/
theorem hostReg_of_hostOp {p : Inputs} (h : hostOp p ≠ 0) : hostReg p = 0 := by
  by_contra hg
  exact h (hostOp_of_noCtrl fun hc => hg hc.2)

/-- Without an operation code other than 0 the host raises nothing. -/
theorem hostEvents_of_nop {s : State} {p : Inputs} (h : hostOp p = 0) : hostEvents s p = 0 := by
  simp [hostEvents, h]

/-- A CTRL write changes EVT alone, by the events it raises. -/
theorem hostRegs_ctrl {s : State} {p : Inputs} (h : hostReg p = 0) :
    hostRegs s p = { s with evt := s.evt ||| hostEvents s p }.driveRdata 0 := by
  have hc : hostClears p = 0 := by simp [hostClears, h]
  simp [hostRegs, h, hc, State.driveRdata, hostView]

/-- What a CTRL write leaves, by its OP field (44_sequencer.md R243 to R248). -/
theorem hostWrites_ctrl {s : State} {p : Inputs} (hw : p.hbWe = true) (h0 : hostReg p = 0) :
    (hostWrites p.txn s).driveRdata 0 = afterHost s p := by
  have hop : p.hbWdata.extractLsb' 0 2 = hostOp p := by simp [hostOp, hw, h0]
  have four : ∀ o : BitVec 2, o = 0 ∨ o = 1 ∨ o = 2 ∨ o = 3 := by decide
  rw [afterHost, hostRegs_ctrl h0]
  simp only [hostWrites, txnWe_txn, txnIndex_txn, txnOp_txn, hop, hw, h0, applyNow, refreshNow, hostEvents]
  rcases four (hostOp p) with h | h | h | h
  · simp [h]
  · by_cases hi : s.seqState = .idle <;> simp [h, hi] <;> rfl
  · by_cases hi : s.seqState = .idle <;> simp [h, hi] <;> rfl
  · simp [h]
    rfl

/-- The transaction on the ports leaves `afterHost`. -/
theorem exec_txn (s : State) (p : Inputs) : exec (decodeTxn p.txn) s = .next (afterHost s p) := by
  rw [exec_decodeTxn, txnIndex_txn]
  by_cases hc : p.hbWe = true ∧ hostReg p = 0
  · obtain ⟨hw, h0⟩ := hc
    rw [← hostWrites_ctrl hw h0, h0]
    rfl
  · have hop : hostOp p = 0 := hostOp_of_noCtrl hc
    simp only [afterHost, applyNow, refreshNow, hop, hostRegs, hostEvents_of_nop hop]
    cases hw : p.hbWe with
    | false => simp [hostWrites, hostClears, hw, State.driveRdata]
    | true =>
      have h0 : hostReg p ≠ 0 := fun h => hc ⟨hw, h⟩
      by_cases h1 : hostReg p = 1
      · simp [hostWrites, hostClears, hw, h1, State.driveRdata]
      · by_cases h3 : hostReg p = 3
        · simp [hostWrites, hostClears, hw, h3, State.driveRdata, State.clearEvents]
        · by_cases h4 : hostReg p = 4 <;> simp [hostWrites, hostClears, hw, h0, h1, h3, h4, State.driveRdata]

/-! ### What the host's transaction leaves unchanged -/

@[simp] theorem hostRegs_ds (s : State) (p : Inputs) : (hostRegs s p).ds = s.ds := rfl
@[simp] theorem hostRegs_tLastPoll (s : State) (p : Inputs) : (hostRegs s p).tLastPoll = s.tLastPoll := rfl
@[simp] theorem hostRegs_tLastCmd (s : State) (p : Inputs) : (hostRegs s p).tLastCmd = s.tLastCmd := rfl
@[simp] theorem hostRegs_cmd (s : State) (p : Inputs) : (hostRegs s p).cmd = s.cmd := rfl
@[simp] theorem hostRegs_rxbuf (s : State) (p : Inputs) : (hostRegs s p).rxbuf = s.rxbuf := rfl
@[simp] theorem hostRegs_rxCnt (s : State) (p : Inputs) : (hostRegs s p).rxCnt = s.rxCnt := rfl
@[simp] theorem hostRegs_txIdx (s : State) (p : Inputs) : (hostRegs s p).txIdx = s.txIdx := rfl
@[simp] theorem hostRegs_seqState (s : State) (p : Inputs) : (hostRegs s p).seqState = s.seqState := rfl
@[simp] theorem hostRegs_origin (s : State) (p : Inputs) : (hostRegs s p).origin = s.origin := rfl
@[simp] theorem hostRegs_tmoCnt (s : State) (p : Inputs) : (hostRegs s p).tmoCnt = s.tmoCnt := rfl
@[simp] theorem hostRegs_setCnt (s : State) (p : Inputs) : (hostRegs s p).setCnt = s.setCnt := rfl
@[simp] theorem hostRegs_refCnt (s : State) (p : Inputs) : (hostRegs s p).refCnt = s.refCnt := rfl
@[simp] theorem hostRegs_now (s : State) (p : Inputs) : (hostRegs s p).now = s.now := rfl
@[simp] theorem hostRegs_lastValid (s : State) (p : Inputs) : (hostRegs s p).lastValid = s.lastValid := rfl
@[simp] theorem hostRegs_inputs (s : State) (p : Inputs) : (hostRegs s p).inputs = s.inputs := rfl
@[simp] theorem hostRegs_cycle (s : State) (p : Inputs) : (hostRegs s p).cycle = s.cycle := rfl
@[simp] theorem hostRegs_wireTx (s : State) (p : Inputs) : (hostRegs s p).wireTx = s.wireTx := rfl
@[simp] theorem hostRegs_req (s : State) (p : Inputs) :
    (hostRegs s p).req = if p.hbWe ∧ hostReg p = 1 then p.hbWdata &&& reqMask else s.req := rfl
@[simp] theorem hostRegs_evt (s : State) (p : Inputs) :
    (hostRegs s p).evt = (s.evt &&& ~~~hostClears p) ||| hostEvents s p := rfl
@[simp] theorem hostRegs_ien (s : State) (p : Inputs) :
    (hostRegs s p).ien = if p.hbWe ∧ hostReg p = 4 then p.hbWdata.extractLsb' 0 6 else s.ien := rfl
@[simp] theorem hostRegs_out (s : State) (p : Inputs) :
    (hostRegs s p).out = { s.out with hbRdata := hostView s (hostReg p) } := rfl
@[simp] theorem hostRegs_replyValid (s : State) (p : Inputs) : (hostRegs s p).replyValid = s.replyValid := rfl
@[simp] theorem hostRegs_decodedDs (s : State) (p : Inputs) : (hostRegs s p).decodedDs = s.decodedDs := rfl
@[simp] theorem hostRegs_txData (s : State) (p : Inputs) : (hostRegs s p).txData = s.txData := rfl
@[simp] theorem hostRegs_refDue (s : State) (p : Inputs) : (hostRegs s p).refDue = s.refDue := rfl

end Sys2Proof.Machine
end

section
/-! PROOF. What the conditions of StepRule.lean and the transition table say in each STATE. -/

namespace Sys2Proof.Machine

/-! ## The conditions of a cycle -/

section Conditions
variable {s : State} {p : Inputs}

@[simp] theorem applyNow_idle (h : s.seqState = .idle) : applyNow s p = decide (hostOp p = 1) := by simp [applyNow, h]
@[simp] theorem applyNow_busy (h : s.seqState ≠ .idle) : applyNow s p = false := by simp [applyNow, h]
@[simp] theorem refreshNow_idle (h : s.seqState = .idle) : refreshNow s p = decide (hostOp p = 2) := by
  simp [refreshNow, h]
@[simp] theorem refreshNow_busy (h : s.seqState ≠ .idle) : refreshNow s p = false := by simp [refreshNow, h]
@[simp] theorem periodicNow_idle (h : s.seqState = .idle) :
    periodicNow s p = (!decide (hostOp p = 1) && !decide (hostOp p = 2) && s.refDue) := by
  simp [periodicNow, h, Bool.and_assoc]
@[simp] theorem periodicNow_busy (h : s.seqState ≠ .idle) : periodicNow s p = false := by simp [periodicNow, h]
@[simp] theorem settledNow_settle (h : s.seqState = .settle) :
    settledNow s p = (p.tickMs && decide (Config.kSettle ≤ (s.setCnt + 1).toNat)) := by simp [settledNow, h]
@[simp] theorem settledNow_other (h : s.seqState ≠ .settle) : settledNow s p = false := by simp [settledNow, h]
@[simp] theorem sentNow_sending (h : s.seqState = .txCmd ∨ s.seqState = .txQry) : sentNow s p = p.txReady := by
  simp [sentNow, h]
@[simp] theorem sentNow_other (h : ¬ (s.seqState = .txCmd ∨ s.seqState = .txQry)) : sentNow s p = false := by
  simp [sentNow, h]
@[simp] theorem lastSentNow_txCmd (h : s.seqState = .txCmd) :
    lastSentNow s p = (p.txReady && decide (s.txIdx = 34)) := by
  simp [lastSentNow, h, BitVec.toNat_eq]
@[simp] theorem lastSentNow_txQry (h : s.seqState = .txQry) :
    lastSentNow s p = (p.txReady && decide (s.txIdx = 7)) := by
  simp [lastSentNow, h, BitVec.toNat_eq]
@[simp] theorem lastSentNow_other (h : ¬ (s.seqState = .txCmd ∨ s.seqState = .txQry)) : lastSentNow s p = false := by
  simp only [not_or] at h
  simp [lastSentNow, h]
@[simp] theorem markerNow_hunt (h : s.seqState = .hunt) :
    markerNow s p = (p.rxValid && decide (p.rxData = Config.kStart)) := by simp [markerNow, h]
@[simp] theorem markerNow_other (h : s.seqState ≠ .hunt) : markerNow s p = false := by simp [markerNow, h]
@[simp] theorem storedNow_acc (h : s.seqState = .acc) : storedNow s p = p.rxValid := by simp [storedNow, h]
@[simp] theorem storedNow_other (h : s.seqState ≠ .acc) : storedNow s p = false := by simp [storedNow, h]
theorem reading_iff : s.reading = true ↔ s.seqState = .hunt ∨ s.seqState = .acc := by simp [State.reading]
@[simp] theorem reading_yes (h : s.seqState = .hunt ∨ s.seqState = .acc) : s.reading = true := reading_iff.2 h
@[simp] theorem reading_no (h : ¬ (s.seqState = .hunt ∨ s.seqState = .acc)) : s.reading = false := by
  simp [State.reading, h]

/-! ## The rows of the transition table (44_sequencer.md R240) -/

@[simp] theorem transitionTable_idle (h : s.seqState = .idle) : transitionTable s p =
    if hostOp p = 1 then .txCmd else if hostOp p = 2 then .txQry else if s.refDue then .txQry else .idle := by
  simp [transitionTable, h]
@[simp] theorem transitionTable_txCmd (h : s.seqState = .txCmd) :
    transitionTable s p = if p.txReady ∧ s.txIdx = 34 then .settle else .txCmd := by simp [transitionTable, h]
@[simp] theorem transitionTable_settle (h : s.seqState = .settle) :
    transitionTable s p = if p.tickMs ∧ Config.kSettle ≤ (s.setCnt + 1).toNat then .txQry else .settle := by
  simp [transitionTable, h]
@[simp] theorem transitionTable_txQry (h : s.seqState = .txQry) :
    transitionTable s p = if p.txReady ∧ s.txIdx = 7 then .hunt else .txQry := by simp [transitionTable, h]
@[simp] theorem transitionTable_hunt (h : s.seqState = .hunt) :
    transitionTable s p = if readEndsNow s p then .decode else if markerNow s p then .acc else .hunt := by
  rw [transitionTable, h]
@[simp] theorem transitionTable_acc (h : s.seqState = .acc) :
    transitionTable s p = if readEndsNow s p then .decode else .acc := by rw [transitionTable, h]
@[simp] theorem transitionTable_decode (h : s.seqState = .decode) : transitionTable s p = .idle := by
  rw [transitionTable, h]

end Conditions

end Sys2Proof.Machine
end

section
/-! PROOF. What each internal operation does in the STATE that issues it (30_encoding.md R119). -/

namespace Sys2Proof.Machine

/-- An operation issued under a condition. -/
theorem runOps_guarded {c : Bool} {i : Instr} {s t : State} (is : List Instr) (h : exec i s = .next t) :
    runOps ((if c then [i] else []) ++ is) s = runOps is (if c then t else s) := by
  cases c with
  | false => rfl
  | true => exact runOps_cons_next h

/-- A single operation. -/
theorem runOps_single {i : Instr} {s t : State} (h : exec i s = .next t) : runOps [i] s = .next t := runOps_cons_next h

/-- A single operation under a condition. -/
theorem runOps_guarded_last (c : Bool) {i : Instr} {s t : State} (h : exec i s = .next t) :
    runOps (if c then [i] else []) s = .next (if c then t else s) := by
  cases c with
  | false => rfl
  | true => exact runOps_cons_next h

/-- PERIODIC starts a poll in IDLE with a refresh due, and does nothing else. -/
theorem exec_periodic (s : State) :
    exec .periodic s = .next (if s.seqState = .idle ∧ s.refDue then s.periodicStart else s) := by
  show execPeriodic s = _
  unfold execPeriodic
  split_ifs <;> rfl

/-- DECODE writes DS, T_LAST_POLL and LAST_VALID as the frame's validity says, raises its events and goes to IDLE. -/
theorem exec_decode {s : State} (hq : s.seqState = .decode) :
    exec .decode s = .next { s with
      ds := if s.replyValid then s.decodedDs else s.ds
      tLastPoll := if s.replyValid then s.now else s.tLastPoll
      lastValid := s.replyValid
      evt := s.evt ||| eventBit (if s.replyValid then .updated else .notReply) ||| eventBit .done
      seqState := .idle } := by
  show execDecode s = _
  unfold execDecode
  rw [if_pos hq]
  unfold State.decodeCommit
  cases h : s.replyValid <;> rfl

/-- Where a byte is offered it is sent; the last one of the frame finishes it. -/
theorem sendByte_offered {s : State} {b : Byte} (len : Nat) (finish : State → State) (ho : s.txOffer = some b) :
    sendByte len finish s = .next
      (if s.txIdx.toNat = len - 1 then finish { s with wireTx := s.wireTx ++ [b], txIdx := 0 }
       else { s with wireTx := s.wireTx ++ [b], txIdx := s.txIdx + 1 }) := by
  rcases sendByte_cases len finish s with ⟨b', hb, hl, he⟩ | ⟨b', hb, hl, he⟩ | ⟨hn, -⟩
  · obtain rfl : b' = b := by simpa [hb] using ho
    rw [he, if_pos hl]
  · obtain rfl : b' = b := by simpa [hb] using ho
    rw [he, if_neg hl]
  · simp [hn] at ho

/-- TX_CMD_BYTE in TX_CMD at an index the frame has. -/
theorem exec_txCmdByte {s : State} (hq : s.seqState = .txCmd) (hi : s.txIdx.toNat < Config.kCmdLen) :
    exec .txCmdByte s = .next { s with
      wireTx := s.wireTx ++ [s.txData]
      txIdx := if s.txIdx.toNat = Config.kCmdLen - 1 then 0 else s.txIdx + 1
      setCnt := if s.txIdx.toNat = Config.kCmdLen - 1 then 0 else s.setCnt
      seqState := if s.txIdx.toNat = Config.kCmdLen - 1 then .settle else .txCmd } := by
  have ho : s.txOffer = some s.txData := by simp [State.txData, State.txOffer, hq, hi]
  show execTxCmdByte s = _
  rw [execTxCmdByte, if_pos hq, sendByte_offered _ _ ho]
  split_ifs
  · rfl
  · rw [← hq]

/-- TX_QRY_BYTE in TX_QRY at an index the frame has. -/
theorem exec_txQryByte {s : State} (hq : s.seqState = .txQry) (hi : s.txIdx.toNat < Config.kQryLen) :
    exec .txQryByte s = .next { s with
      wireTx := s.wireTx ++ [s.txData]
      txIdx := if s.txIdx.toNat = Config.kQryLen - 1 then 0 else s.txIdx + 1
      tmoCnt := if s.txIdx.toNat = Config.kQryLen - 1 then 0 else s.tmoCnt
      seqState := if s.txIdx.toNat = Config.kQryLen - 1 then .hunt else .txQry } := by
  have ho : s.txOffer = some s.txData := by simp [State.txData, State.txOffer, hq, hi]
  show execTxQryByte s = _
  rw [execTxQryByte, if_pos hq, sendByte_offered _ _ ho]
  split_ifs
  · rfl
  · rw [← hq]

/-- SETTLE_TICK in SETTLE: the tick that reaches K_SETTLE starts the poll. -/
theorem exec_settleTick {s : State} (hq : s.seqState = .settle) :
    exec .settleTick s = .next
      (if Config.kSettle ≤ (s.setCnt + 1).toNat then { s with setCnt := s.setCnt + 1 }.enterPoll
       else { s with setCnt := s.setCnt + 1 }) := by
  show execSettleTick s = _
  unfold execSettleTick
  rw [if_pos hq]
  split_ifs <;> rfl

/-- HUNT_BYTE in HUNT: only the start marker is stored. -/
theorem exec_huntByte {s : State} (b : Byte) (hq : s.seqState = .hunt) :
    exec (.huntByte b) s = .next
      (if b = Config.kStart then
        { s with rxbuf := s.rxbuf.setIfInBounds 0 Config.kStart, rxCnt := 1, seqState := .acc }
       else s) := by
  show execHuntByte b s = _
  simp only [execHuntByte, hq, true_and]
  split_ifs <;> rfl

/-- ACC_BYTE in ACC at an index the buffer has. -/
theorem exec_accByte {s : State} (b : Byte) (hq : s.seqState = .acc) (hi : s.rxCnt.toNat < Config.kRxCap) :
    exec (.accByte b) s =
      .next { s with rxbuf := s.rxbuf.setIfInBounds s.rxCnt.toNat b, rxCnt := s.rxCnt + 1 } := by
  show execAccByte b s = _
  rw [execAccByte, if_pos hq]
  rcases storeByte_cases b s with ⟨-, he⟩ | ⟨hge, -⟩
  · exact he
  · exact absurd hi (Nat.not_lt.2 hge)

/-- CAPACITY_STOP in HUNT and ACC: a full buffer ends the read. -/
theorem exec_capacityStop {s : State} (hr : s.seqState = .hunt ∨ s.seqState = .acc) :
    exec .capacityStop s = .next { s with
      seqState := if s.rxCnt.toNat = Config.kRxCap then .decode else s.seqState } := by
  show execCapacityStop s = _
  simp only [execCapacityStop, hr, true_and]
  split_ifs <;> rfl

/-- CAPACITY_STOP does nothing once the read has ended. -/
theorem exec_capacityStop_outside {s : State} (hr : ¬ (s.seqState = .hunt ∨ s.seqState = .acc)) :
    exec .capacityStop s = .next s := by
  show execCapacityStop s = _
  rw [execCapacityStop, if_neg fun h => hr h.1]

/-- TIMEOUT_TICK in HUNT and ACC: the tick that reaches K_TMO ends the read with TIMEOUT. -/
theorem exec_timeoutTick {s : State} (hr : s.seqState = .hunt ∨ s.seqState = .acc) :
    exec .timeoutTick s = .next { s with
      tmoCnt := s.tmoCnt + 1
      evt := s.evt ||| eventIf (Config.kTmo ≤ (s.tmoCnt + 1).toNat) .timeout
      seqState := if Config.kTmo ≤ (s.tmoCnt + 1).toNat then .decode else s.seqState } := by
  show execTimeoutTick s = _
  rw [execTimeoutTick, if_pos hr]
  by_cases h : Config.kTmo ≤ (s.tmoCnt + 1).toNat
  · rw [if_pos h, if_pos h, decide_eq_true h]
    rfl
  · rw [if_neg h, if_neg h, decide_eq_false h, eventIf_false, BitVec.or_zero]

/-- The end of a HUNT or ACC cycle: the budget counts the tick, then the capacity is tested (43_frame_sync.md R220). -/
theorem runOps_readEnd {s : State} (tick : Bool) (hr : s.seqState = .hunt ∨ s.seqState = .acc) :
    runOps ((if tick then [.timeoutTick] else []) ++ [.capacityStop]) s = .next { s with
      tmoCnt := if tick then s.tmoCnt + 1 else s.tmoCnt
      evt := s.evt ||| eventIf (tick ∧ Config.kTmo ≤ (s.tmoCnt + 1).toNat) .timeout
      seqState :=
        if s.rxCnt.toNat = Config.kRxCap ∨ (tick ∧ Config.kTmo ≤ (s.tmoCnt + 1).toNat) then .decode
        else s.seqState } := by
  rw [runOps_guarded _ (exec_timeoutTick hr)]
  cases tick with
  | false => simpa using runOps_single (exec_capacityStop hr)
  | true =>
    by_cases ht : Config.kTmo ≤ (s.tmoCnt + 1).toNat
    · simp only [ht, if_true, and_self, or_true, decide_true]
      exact runOps_single (exec_capacityStop_outside (by simp))
    · simp only [ht, if_true, if_false, and_false, or_false, decide_false]
      exact runOps_single (exec_capacityStop hr)

end Sys2Proof.Machine
end

section
/-! PROOF. A clock edge is R254's STEP: the operations of a cycle, run one after another, leave what the rule writes at
once (44_sequencer.md R254, log 8). One lemma for each STATE. -/

namespace Sys2Proof.Machine

/-- The end of a cycle without reset. -/
theorem finishCycle_run {s : State} {p : Inputs} (t : State) (h : p.rst = false) :
    finishCycle s p t = { t with
      now := if p.tickMs then t.now + 1 else t.now
      refCnt := if p.tickMs ∧ s.refCnt.toNat < Config.kRefresh ∧ ¬ pollStarted s t then s.refCnt + 1 else t.refCnt
      inputs := t.inputs.tail
      cycle := t.cycle + 1
      out := cycleOutputs s p t.out.hbRdata } := by
  unfold finishCycle
  cases ht : p.tickMs <;> simp [h, tickCounters, State.nextSample]

/-- Every event of a cycle is the host's or the block's own. -/
theorem eventsNow_eq (s : State) (p : Inputs) :
    eventsNow s p = hostEvents s p ||| (eventIf (s.seqState = .decode ∧ s.replyValid) .updated
      ||| eventIf (s.seqState = .decode ∧ ¬ s.replyValid) .notReply ||| eventIf (s.seqState = .decode) .done
      ||| eventIf (timeoutNow s p) .timeout) := by
  unfold eventsNow hostEvents
  ac_rfl

/-- A cycle without reset runs the host's transaction, then the internal operations. -/
theorem runOps_cycleOps {p : Inputs} (s : State) (h : p.rst = false) :
    runOps (cycleOps s p) s = runOps (internalOps s p) (afterHost s p) := by
  rw [cycleOps_run h, runOps_cons_next (exec_txn s p)]

/-- Outside IDLE no operation of the host is accepted, so the internal operations start from the host's registers. -/
theorem clockEdge_busy {s t : State} {p : Inputs} {is : List Instr} (h : p.rst = false) (hq : s.seqState ≠ .idle)
    (hi : internalOps s p = is) (ht : runOps is (hostRegs s p) = .next t) :
    clockEdge p s = .next (finishCycle s p t) := by
  refine clockEdge_next ?_
  rw [runOps_cycleOps s h, afterHost_busy hq, hi]
  exact ht

theorem clockEdge_decode {s : State} {p : Inputs} (h : p.rst = false) (hq : s.seqState = .decode) :
    clockEdge p s = .next (stepRule s p) := by
  have ho := runOps_single (exec_decode (s := hostRegs s p) hq)
  rw [clockEdge_busy h (by simp [hq]) (by rw [internalOps, hq]) ho, finishCycle_run _ h]
  cases hv : s.replyValid <;>
    simp [stepRule, h, hq, hv, pollStartNow, cntNow, pollStarted, eventsNow_eq, timeoutNow, BitVec.or_assoc]

theorem clockEdge_txCmd {s : State} {p : Inputs} (h : p.rst = false) (hq : s.seqState = .txCmd)
    (hi : s.txIdx.toNat < Config.kCmdLen) : clockEdge p s = .next (stepRule s p) := by
  have ho := runOps_guarded_last p.txReady (exec_txCmdByte (s := hostRegs s p) hq hi)
  rw [clockEdge_busy h (by simp [hq]) (by rw [internalOps, hq]) ho, finishCycle_run _ h]
  have hl : s.txIdx = 34#6 ↔ s.txIdx.toNat = 34 := BitVec.toNat_eq
  cases hy : p.txReady <;> by_cases h34 : s.txIdx.toNat = 34 <;>
    simp [stepRule, h, hq, hy, h34, hl, pollStartNow, cntNow, pollStarted, eventsNow_eq, timeoutNow]

theorem clockEdge_txQry {s : State} {p : Inputs} (h : p.rst = false) (hq : s.seqState = .txQry)
    (hi : s.txIdx.toNat < Config.kQryLen) : clockEdge p s = .next (stepRule s p) := by
  have ho := runOps_guarded_last p.txReady (exec_txQryByte (s := hostRegs s p) hq hi)
  rw [clockEdge_busy h (by simp [hq]) (by rw [internalOps, hq]) ho, finishCycle_run _ h]
  have hl : s.txIdx = 7#6 ↔ s.txIdx.toNat = 7 := BitVec.toNat_eq
  cases hy : p.txReady <;> by_cases h7 : s.txIdx.toNat = 7 <;>
    simp [stepRule, h, hq, hy, h7, hl, pollStartNow, cntNow, pollStarted, eventsNow_eq, timeoutNow]

theorem clockEdge_settle {s : State} {p : Inputs} (h : p.rst = false) (hq : s.seqState = .settle) :
    clockEdge p s = .next (stepRule s p) := by
  have ho := runOps_guarded_last p.tickMs (exec_settleTick (s := hostRegs s p) hq)
  rw [clockEdge_busy h (by simp [hq]) (by rw [internalOps, hq]) ho, finishCycle_run _ h]
  cases ht : p.tickMs <;> by_cases he : Config.kSettle ≤ (s.setCnt + 1#10).toNat <;>
    simp [-BitVec.toNat_add, stepRule, h, hq, ht, he, pollStartNow, cntNow, pollStarted, eventsNow_eq, timeoutNow]

theorem clockEdge_idle {s : State} {p : Inputs} (h : p.rst = false) (hq : s.seqState = .idle) :
    clockEdge p s = .next (stepRule s p) := by
  have ho := runOps_cycleOps s h
  rw [show internalOps s p = [.periodic] by rw [internalOps, hq], runOps_single (exec_periodic _)] at ho
  rw [clockEdge_next ho, finishCycle_run _ h]
  by_cases h1 : hostOp p = 1#2
  · have hg : hostReg p = 0 := hostReg_of_hostOp (by simp [h1])
    simp [afterHost, stepRule, h, hq, h1, hg, pollStartNow, cntNow, pollStarted, eventsNow_eq, timeoutNow]
  · by_cases h2 : hostOp p = 2#2
    · simp [afterHost, stepRule, h, hq, h2, pollStartNow, pollStarted, eventsNow_eq, timeoutNow]
    · cases hd : s.refDue <;>
        simp [afterHost, stepRule, h, hq, h1, h2, hd, pollStartNow, cntNow, pollStarted, eventsNow_eq, timeoutNow]

/-- The read after this cycle's byte (43_frame_sync.md R216, R217), before the budget and capacity tests. -/
def afterByte (s : State) (p : Inputs) : State :=
  { hostRegs s p with
    rxbuf :=
      if markerNow s p then s.rxbuf.setIfInBounds 0 Config.kStart
      else if storedNow s p then s.rxbuf.setIfInBounds s.rxCnt.toNat p.rxData else s.rxbuf
    rxCnt := cntNow s p
    seqState := if markerNow s p then .acc else s.seqState }

/-- In HUNT the byte operation leaves `afterByte`. -/
theorem runOps_hunt {s : State} {p : Inputs} (hq : s.seqState = .hunt) :
    runOps (internalOps s p) (hostRegs s p) =
      runOps ((if p.tickMs then [.timeoutTick] else []) ++ [.capacityStop]) (afterByte s p) := by
  simp only [internalOps, hq, List.append_assoc]
  rw [runOps_guarded _ (exec_huntByte (s := hostRegs s p) _ hq)]
  congr 1
  simp only [afterByte, cntNow, markerNow_hunt hq, storedNow_other (by simp [hq] : s.seqState ≠ .acc)]
  cases p.rxValid <;> by_cases hk : p.rxData = Config.kStart <;> simp [hk] <;> rfl

/-- In ACC the byte operation leaves `afterByte`. -/
theorem runOps_acc {s : State} {p : Inputs} (hq : s.seqState = .acc) (hi : s.rxCnt.toNat < Config.kRxCap) :
    runOps (internalOps s p) (hostRegs s p) =
      runOps ((if p.tickMs then [.timeoutTick] else []) ++ [.capacityStop]) (afterByte s p) := by
  simp only [internalOps, hq, List.append_assoc]
  rw [runOps_guarded _ (exec_accByte (s := hostRegs s p) _ hq hi)]
  congr 1
  simp only [afterByte, cntNow, storedNow_acc hq, markerNow_other (by simp [hq] : s.seqState ≠ .hunt)]
  cases p.rxValid <;> rfl

/-- The end of a read never enters TX_QRY. -/
@[simp] theorem ite_decode_eq_txQry {c : Prop} [Decidable c] (q : SeqState) :
    (if c then SeqState.decode else q) = .txQry ↔ ¬ c ∧ q = .txQry := by
  split_ifs with h <;> simp [h]

theorem clockEdge_reading {s : State} {p : Inputs} (h : p.rst = false) (hr : s.seqState = .hunt ∨ s.seqState = .acc)
    (hi : s.seqState = .acc → s.rxCnt.toNat < Config.kRxCap) : clockEdge p s = .next (stepRule s p) := by
  have ha : (afterByte s p).seqState = .hunt ∨ (afterByte s p).seqState = .acc := by
    simp only [afterByte]
    split_ifs
    · exact .inr rfl
    · exact hr
  have ho := hr.elim (runOps_hunt (p := p)) fun hq => runOps_acc hq (hi hq)
  rw [runOps_readEnd _ ha] at ho
  rw [clockEdge_busy h (by rcases hr with hq | hq <;> simp [hq]) rfl ho, finishCycle_run _ h]
  rcases hr with hq | hq
  · cases hm : markerNow s p <;> cases ht : p.tickMs <;>
      simp [-BitVec.toNat_add, -markerNow_hunt, stepRule, afterByte, h, hq, hm, ht, pollStartNow, readEndsNow, cntNow,
        pollStarted, eventsNow_eq, timeoutNow, BitVec.or_assoc]
  · cases hn : p.rxValid <;> cases ht : p.tickMs <;>
      simp [-BitVec.toNat_add, stepRule, afterByte, h, hq, hn, ht, pollStartNow, readEndsNow, cntNow,
        pollStarted, eventsNow_eq, timeoutNow, BitVec.or_assoc]

/-- In a reset cycle the block takes its reset values, whatever else is on the ports (70_reset_and_hazards.md R330). -/
theorem clockEdge_rst {s : State} {p : Inputs} (h : p.rst = true) : clockEdge p s = .next (stepRule s p) := by
  have hr : runOps (cycleOps s p) s = .next s.resetBlock := by
    rw [cycleOps_rst h]
    rfl
  rw [clockEdge_next hr]
  simp [finishCycle, stepRule, cycleOutputs, h]

/-- One clock edge is R254's STEP: all operations of a cycle, one after another, write what the rule writes at once. -/
theorem clockEdge_eq_stepRule {s : State} (hi : IndexInRange s) (p : Inputs) :
    clockEdge p s = .next (stepRule s p) := by
  cases h : p.rst with
  | true => exact clockEdge_rst h
  | false =>
    cases hq : s.seqState with
    | idle => exact clockEdge_idle h hq
    | txCmd => exact clockEdge_txCmd h hq (hi.txCmd hq)
    | settle => exact clockEdge_settle h hq
    | txQry => exact clockEdge_txQry h hq (hi.txQry hq)
    | hunt => exact clockEdge_reading h (.inl hq) hi.acc
    | acc => exact clockEdge_reading h (.inr hq) hi.acc
    | decode => exact clockEdge_decode h hq

/-- One step is R254's STEP on the cycle's sample. -/
theorem step_eq_stepRule {s : State} (hi : IndexInRange s) : step s = .next (stepRule s s.ports) :=
  clockEdge_eq_stepRule hi s.ports

end Sys2Proof.Machine
end

section
/-! PROOF. Every register after a cycle, and which cycles enter which STATE. -/

namespace Sys2Proof.Machine

/-! ## The registers after a cycle without reset (R254) -/

section Registers
variable (s : State) {p : Inputs} (h : p.rst = false)
include h

theorem stepRule_ds : (stepRule s p).ds = if s.seqState = .decode ∧ s.replyValid then s.decodedDs else s.ds := by
  simp [stepRule, h]
theorem stepRule_tLastPoll :
    (stepRule s p).tLastPoll = if s.seqState = .decode ∧ s.replyValid then s.now else s.tLastPoll := by
  simp [stepRule, h]
theorem stepRule_lastValid :
    (stepRule s p).lastValid = if s.seqState = .decode then s.replyValid else s.lastValid := by
  simp [stepRule, h]
theorem stepRule_tLastCmd : (stepRule s p).tLastCmd = if applyNow s p then s.now else s.tLastCmd := by
  simp [stepRule, h]
theorem stepRule_cmd : (stepRule s p).cmd = if applyNow s p then encodeFrame s.req s.ds s.cmd else s.cmd := by
  simp [stepRule, h]
theorem stepRule_rxbuf : (stepRule s p).rxbuf =
    if pollStartNow s p then rxbufZero
    else if markerNow s p then s.rxbuf.setIfInBounds 0 Config.kStart
    else if storedNow s p then s.rxbuf.setIfInBounds s.rxCnt.toNat p.rxData
    else s.rxbuf := by simp [stepRule, h]
theorem stepRule_rxCnt : (stepRule s p).rxCnt = if pollStartNow s p then 0 else cntNow s p := by simp [stepRule, h]
theorem stepRule_txIdx : (stepRule s p).txIdx =
    if applyNow s p ∨ pollStartNow s p ∨ lastSentNow s p then 0
    else if sentNow s p then s.txIdx + 1 else s.txIdx := by simp [stepRule, h]
theorem stepRule_seqState : (stepRule s p).seqState = transitionTable s p := by simp [stepRule, h]
theorem stepRule_origin : (stepRule s p).origin =
    if applyNow s p then .apply else if refreshNow s p then .hostRefresh
    else if periodicNow s p then .periodic else s.origin := by simp [stepRule, h]
theorem stepRule_tmoCnt : (stepRule s p).tmoCnt =
    if lastSentNow s p ∧ s.seqState = .txQry then 0
    else if s.reading ∧ p.tickMs then s.tmoCnt + 1 else s.tmoCnt := by simp [stepRule, h]
theorem stepRule_setCnt : (stepRule s p).setCnt =
    if lastSentNow s p ∧ s.seqState = .txCmd then 0
    else if s.seqState = .settle ∧ p.tickMs then s.setCnt + 1 else s.setCnt := by simp [stepRule, h]
theorem stepRule_refCnt : (stepRule s p).refCnt =
    if pollStartNow s p then 0
    else if p.tickMs ∧ s.refCnt.toNat < Config.kRefresh then s.refCnt + 1 else s.refCnt := by simp [stepRule, h]
theorem stepRule_now : (stepRule s p).now = if p.tickMs then s.now + 1 else s.now := by simp [stepRule, h]
theorem stepRule_req :
    (stepRule s p).req = if p.hbWe ∧ hostReg p = 1 then p.hbWdata &&& reqMask else s.req := by simp [stepRule, h]
theorem stepRule_evt : (stepRule s p).evt = (s.evt &&& ~~~hostClears p) ||| eventsNow s p := by simp [stepRule, h]
theorem stepRule_ien :
    (stepRule s p).ien = if p.hbWe ∧ hostReg p = 4 then p.hbWdata.extractLsb' 0 6 else s.ien := by simp [stepRule, h]

/-- POLL_START runs exactly where a cycle enters TX_QRY (44_sequencer.md R254, 43_frame_sync.md R214). -/
theorem pollStartNow_iff : pollStartNow s p = true ↔ s.seqState ≠ .txQry ∧ (stepRule s p).seqState = .txQry := by
  rw [stepRule_seqState s h]
  cases hq : s.seqState with
  | idle =>
    by_cases h1 : hostOp p = 1#2
    · simp [pollStartNow, hq, h1]
    · by_cases h2 : hostOp p = 2#2 <;> simp [pollStartNow, hq, h1, h2]
  | settle => simp [pollStartNow, hq]
  | txCmd | txQry | hunt | acc | decode => simp [pollStartNow, hq, ite_eq_iff]

/-- An APPLY is accepted exactly where a cycle enters TX_CMD (R243). -/
theorem applyNow_iff : applyNow s p = true ↔ s.seqState ≠ .txCmd ∧ (stepRule s p).seqState = .txCmd := by
  rw [stepRule_seqState s h]
  cases hq : s.seqState with
  | idle => by_cases h1 : hostOp p = 1#2 <;> simp [hq, h1, ite_eq_iff]
  | txCmd | settle | txQry | hunt | acc | decode => simp [hq, ite_eq_iff]

/-- The command frame is sent exactly where a cycle goes from TX_CMD to SETTLE (43_frame_sync.md R211). -/
theorem commandSent_iff :
    lastSentNow s p = true ∧ s.seqState = .txCmd ↔ s.seqState = .txCmd ∧ (stepRule s p).seqState = .settle := by
  rw [stepRule_seqState s h, and_comm, and_congr_right_iff]
  intro hq
  simp [hq]

/-- The query frame is sent exactly where a cycle goes from TX_QRY to HUNT (43_frame_sync.md R213). -/
theorem querySent_iff :
    lastSentNow s p = true ∧ s.seqState = .txQry ↔ s.seqState = .txQry ∧ (stepRule s p).seqState = .hunt := by
  rw [stepRule_seqState s h, and_comm, and_congr_right_iff]
  intro hq
  simp [hq]

/-- An exchange starts exactly where a cycle leaves IDLE (44_sequencer.md R240). -/
theorem exchangeStarts_iff : applyNow s p = true ∨ refreshNow s p = true ∨ periodicNow s p = true ↔
    s.seqState = .idle ∧ (stepRule s p).seqState ≠ .idle := by
  rw [stepRule_seqState s h]
  by_cases hq : s.seqState = .idle
  · by_cases h1 : hostOp p = 1#2
    · simp [hq, h1]
    · by_cases h2 : hostOp p = 2#2 <;> simp [hq, h1, h2]
  · simp [hq]

end Registers

/-! ### Which cycles end in a receive state or in SETTLE -/

section Entries
variable (s : State) {p : Inputs} (h : p.rst = false)
include h

/-- HUNT follows the query frame, or a HUNT cycle without marker and without end. -/
theorem enters_hunt_iff : (stepRule s p).seqState = .hunt ↔ lastSentNow s p = true ∧ s.seqState = .txQry ∨
    s.seqState = .hunt ∧ readEndsNow s p = false ∧ markerNow s p = false := by
  rw [stepRule_seqState s h]
  cases hq : s.seqState with
  | idle | txCmd | settle | txQry | acc | decode => simp [hq, ite_eq_iff]
  | hunt => cases hr : readEndsNow s p <;> cases hm : markerNow s p <;> simp [hq, hr, hm, -markerNow_hunt]

/-- ACC follows the marker or another ACC cycle, unless the read ends. -/
theorem enters_acc_iff : (stepRule s p).seqState = .acc ↔
    s.reading = true ∧ readEndsNow s p = false ∧ (s.seqState = .acc ∨ markerNow s p = true) := by
  rw [stepRule_seqState s h]
  cases hq : s.seqState with
  | idle | txCmd | settle | txQry | acc | decode => simp [hq, ite_eq_iff]
  | hunt => cases hr : readEndsNow s p <;> cases hm : markerNow s p <;> simp [hq, hr, hm, -markerNow_hunt]

/-- DECODE follows the end of a read and nothing else. -/
theorem enters_decode_iff : (stepRule s p).seqState = .decode ↔ readEndsNow s p = true := by
  rw [stepRule_seqState s h]
  cases hq : s.seqState with
  | idle | txCmd | settle | txQry | decode => simp [hq, ite_eq_iff, readEndsNow]
  | acc => simp [hq]
  | hunt => cases hr : readEndsNow s p <;> cases hm : markerNow s p <;> simp [hq, hr, hm, -markerNow_hunt]

/-- SETTLE follows the command frame, or a SETTLE cycle before its last tick. -/
theorem enters_settle_iff : (stepRule s p).seqState = .settle ↔
    lastSentNow s p = true ∧ s.seqState = .txCmd ∨ s.seqState = .settle ∧ settledNow s p = false := by
  rw [stepRule_seqState s h]
  cases hq : s.seqState with
  | idle | txCmd | txQry | hunt | acc | decode => simp [hq, ite_eq_iff]
  | settle => simp [hq]

end Entries

end Sys2Proof.Machine
end

section
/-! PROOF. The invariants of 10_state.md R65, group by group, over one cycle without reset. -/

namespace Sys2Proof.Machine

theorem Inv.indexInRange {s : State} (hv : Inv s) : IndexInRange s where
  txCmd hq := Nat.lt_succ_of_le (hv.txCmdIdx hq)
  txQry hq := Nat.lt_succ_of_le (hv.txQryIdx hq)
  acc hq := (hv.accCount hq).2

/-- Inv speaks of the registers only, not of the model's own fields. -/
theorem Inv.of_sameBlock {s t : State} (h : sameBlock s t) (hv : Inv s) : Inv t := by
  unfold sameBlock at h
  rw [← h] at hv
  exact { hv with }

/-! ### DS -/

theorem normMode_bounds (m : Nat) : 1 ≤ normMode m ∧ normMode m ≤ 5 := by
  unfold normMode
  split_ifs with hm
  · exact hm
  · decide

theorem decodedDs_mode_bounds (s : State) : 1 ≤ s.decodedDs.mode.toNat ∧ s.decodedDs.mode.toNat ≤ 5 := by
  obtain ⟨h1, h5⟩ := normMode_bounds ((s.rxByte 7).extractLsb' 0 4).toNat
  have hm : s.decodedDs.mode.toNat = normMode ((s.rxByte 7).extractLsb' 0 4).toNat :=
    (BitVec.toNat_ofNat _ _).trans (Nat.mod_eq_of_lt (by omega))
  omega

theorem fanRev_le {x : Byte} {n : BitVec 3} (h : fanRev x = some n) : n.toNat ≤ 5 := by
  obtain ⟨l₁, l₂, hl, -⟩ := List.lookup_eq_some_iff.1 h
  have hall : ∀ e ∈ Config.fanRevTable, e.2.toNat ≤ 5 := by simp [Config.fanRevTable]
  exact hall (x, n) (by rw [hl]; simp)

theorem decodedDs_speed_le {s : State} (hs : s.ds.speed.toNat ≤ 5) : s.decodedDs.speed.toNat ≤ 5 := by
  show ((fanRev (s.rxByte 8 &&& 0xF0)).getD s.ds.speed).toNat ≤ 5
  cases hf : fanRev (s.rxByte 8 &&& 0xF0) with
  | none => exact hs
  | some n => exact fanRev_le hf

theorem decodedDs_setpt_bounds (s : State) : 16 ≤ s.decodedDs.setptInt.toNat ∧ s.decodedDs.setptInt.toNat ≤ 31 := by
  have hn := ((s.rxByte 8).extractLsb' 0 4).isLt
  have hm : s.decodedDs.setptInt.toNat = ((s.rxByte 8).extractLsb' 0 4).toNat + 16 := by
    simp only [State.decodedDs, Config.kSetOfs, BitVec.toNat_add, BitVec.toNat_setWidth]
    simp
    omega
  omega

/-! ### RXBUF -/

/-- RXBUF as a read of `n` bytes leaves it: the marker first, zeros from byte `n` on (10_state.md R65). -/
structure BufferHolds (buf : Vector Byte Config.kRxCap) (n : Nat) : Prop where
  le_cap : n ≤ Config.kRxCap
  marker : buf[0]?.getD 0 = Config.kStart ↔ 1 ≤ n
  zeros : ∀ i < Config.kRxCap, n ≤ i → buf[i]?.getD 0 = 0

theorem bufferHolds_clear {buf : Vector Byte Config.kRxCap} (h : ∀ i < Config.kRxCap, buf[i]?.getD 0 = 0) :
    BufferHolds buf 0 where
  le_cap := Nat.zero_le _
  marker := by rw [h 0 (by decide)]; decide
  zeros i hi _ := h i hi

theorem BufferHolds.start {buf : Vector Byte Config.kRxCap} (h : BufferHolds buf 0) :
    BufferHolds (buf.setIfInBounds 0 Config.kStart) 1 where
  le_cap := by decide
  marker := by simp
  zeros i hi hn := by
    rw [getD_setIfInBounds _ _ _ _ (by decide), if_neg (by omega)]
    exact h.zeros i hi (Nat.zero_le i)

theorem BufferHolds.store {buf : Vector Byte Config.kRxCap} {n : Nat} (h : BufferHolds buf n) (b : Byte) (h1 : 1 ≤ n)
    (hn : n < Config.kRxCap) : BufferHolds (buf.setIfInBounds n b) (n + 1) where
  le_cap := hn
  marker := by
    rw [getD_setIfInBounds _ _ _ _ hn, if_neg (by omega), h.marker]
    omega
  zeros i hi hni := by
    rw [getD_setIfInBounds _ _ _ _ hn, if_neg (by omega)]
    exact h.zeros i hi (by omega)

section Step
variable {s : State} {p : Inputs} (hv : Inv s) (h : p.rst = false)
include hv h

/-- TX_IDX after a cycle, by the next STATE. -/
theorem Inv.next_txIdx :
    ((stepRule s p).seqState = .txCmd → (stepRule s p).txIdx.toNat ≤ 34) ∧
    ((stepRule s p).seqState = .txQry → (stepRule s p).txIdx.toNat ≤ 7) ∧
    ((stepRule s p).seqState ≠ .txCmd → (stepRule s p).seqState ≠ .txQry → (stepRule s p).txIdx = 0) := by
  rw [stepRule_seqState s h, stepRule_txIdx s h]
  cases hq : s.seqState with
  | idle | settle | hunt | acc | decode =>
    have h0 : s.txIdx = 0 := hv.txIdxElsewhere (by simp [hq]) (by simp [hq])
    simp [hq, h0]
  | txCmd =>
    have hi := hv.txCmdIdx hq
    by_cases hl : s.txIdx = 34#6
    · cases hy : p.txReady <;> simp [hq, hy, hl, pollStartNow]
    · have : s.txIdx.toNat ≠ 34 := fun e => hl (BitVec.eq_of_toNat_eq e)
      cases hy : p.txReady <;> simp [hq, hy, hl, pollStartNow] <;> omega
  | txQry =>
    have hi := hv.txQryIdx hq
    by_cases hl : s.txIdx = 7#6
    · cases hy : p.txReady <;> simp [hq, hy, hl, pollStartNow]
    · have : s.txIdx.toNat ≠ 7 := fun e => hl (BitVec.eq_of_toNat_eq e)
      cases hy : p.txReady <;> simp [hq, hy, hl, pollStartNow] <;> omega

end Step

/-- In HUNT, ACC and DECODE, RXBUF holds the bytes of the read. -/
theorem Inv.bufferHolds {s : State} (hv : Inv s) (hq : s.seqState = .hunt ∨ s.seqState = .acc ∨ s.seqState = .decode) :
    BufferHolds s.rxbuf s.rxCnt.toNat := by
  rcases hq with hq | hq
  · rw [hv.noByteYet (.inr hq)]
    exact bufferHolds_clear (hv.bufferClear (.inr hq))
  · exact ⟨hv.rxCntLegal, hv.markerFirst hq, hv.zeroBeyond hq⟩

section Step
variable {s : State} {p : Inputs} (hv : Inv s) (h : p.rst = false)
include hv h

/-- The byte of a HUNT or ACC cycle keeps RXBUF and RX_CNT together. -/
theorem Inv.next_bufferHolds (hr : s.reading = true) :
    BufferHolds (stepRule s p).rxbuf (stepRule s p).rxCnt.toNat := by
  rw [stepRule_rxbuf s h, stepRule_rxCnt s h]
  rcases reading_iff.1 hr with hq | hq
  · have hb := hv.bufferHolds (.inl hq)
    rw [hv.noByteYet (.inr hq)] at hb
    cases hm : markerNow s p with
    | true => simpa [cntNow, pollStartNow, hq, hm, -markerNow_hunt] using hb.start
    | false => simpa [cntNow, pollStartNow, hq, hm, -markerNow_hunt, hv.noByteYet (.inr hq)] using hb
  · have hb := hv.bufferHolds (.inr (.inl hq))
    obtain ⟨h1, hlt⟩ := hv.accCount hq
    cases hn : p.rxValid with
    | true =>
      have hs : (s.rxCnt + 1#7).toNat = s.rxCnt.toNat + 1 := toNat_add_one (lt_of_le_of_lt hlt (by decide))
      simpa [cntNow, pollStartNow, hq, hn, hs] using hb.store p.rxData h1 hlt
    | false => simpa [cntNow, pollStartNow, hq, hn] using hb

/-- A cycle that ends in TX_QRY or HUNT leaves the buffer empty. -/
theorem Inv.next_empty (ht : (stepRule s p).seqState = .txQry ∨ (stepRule s p).seqState = .hunt) :
    (stepRule s p).rxCnt = 0 ∧ ∀ i < Config.kRxCap, (stepRule s p).rxByte i = 0 := by
  have hk : pollStartNow s p = true ∨ (s.seqState = .txQry ∨ s.seqState = .hunt) ∧ markerNow s p = false := by
    rcases ht with ht | ht
    · by_cases hq : s.seqState = .txQry
      · exact .inr ⟨.inl hq, markerNow_other (by simp [hq])⟩
      · exact .inl ((pollStartNow_iff s h).2 ⟨hq, ht⟩)
    · rcases (enters_hunt_iff s h).1 ht with ⟨-, hq⟩ | ⟨hq, -, hm⟩
      · exact .inr ⟨.inl hq, markerNow_other (by simp [hq])⟩
      · exact .inr ⟨.inr hq, hm⟩
  simp only [State.rxByte, stepRule_rxbuf s h, stepRule_rxCnt s h]
  rcases hk with hp | ⟨hq, hm⟩
  · simp only [hp, if_true]
    exact ⟨trivial, fun i _ => getD_rxbufZero i⟩
  · have hp : pollStartNow s p = false := by rcases hq with hq | hq <;> simp [pollStartNow, hq]
    have hn : storedNow s p = false := storedNow_other (by rcases hq with hq | hq <;> simp [hq])
    simp only [hp, hm, hn, cntNow]
    exact ⟨hv.noByteYet hq, hv.bufferClear hq⟩

theorem Inv.next_rxCnt_le : (stepRule s p).rxCnt.toNat ≤ Config.kRxCap := by
  by_cases hr : s.seqState = .hunt ∨ s.seqState = .acc
  · exact (hv.next_bufferHolds h (reading_iff.2 hr)).le_cap
  · obtain ⟨hh, ha⟩ := not_or.1 hr
    have hc : cntNow s p = s.rxCnt := by simp [cntNow, hh, ha]
    rw [stepRule_rxCnt s h, hc]
    split_ifs
    · exact Nat.zero_le _
    · exact hv.rxCntLegal

/-- A cycle that ends in ACC leaves at least the marker and less than a full buffer. -/
theorem Inv.next_accCount (ht : (stepRule s p).seqState = .acc) :
    1 ≤ (stepRule s p).rxCnt.toNat ∧ (stepRule s p).rxCnt.toNat < Config.kRxCap := by
  obtain ⟨hr, he, hm⟩ := (enters_acc_iff s h).1 ht
  have hp : pollStartNow s p = false := by rcases reading_iff.1 hr with hq | hq <;> simp [pollStartNow, hq]
  have hle := hv.next_rxCnt_le h
  have hne : (cntNow s p).toNat ≠ Config.kRxCap := fun e => by simp [readEndsNow, hr, e] at he
  rw [stepRule_rxCnt s h, hp] at hle ⊢
  refine ⟨?_, lt_of_le_of_ne hle hne⟩
  rcases hm with hq | hm
  · obtain ⟨h1, hlt⟩ := hv.accCount hq
    simp only [Config.kRxCap] at hlt
    cases hn : p.rxValid <;> simp [cntNow, hq, hn] <;> omega
  · simp [cntNow, hm]

/-- A cycle that ends in ACC or DECODE leaves in RXBUF the bytes of the read. -/
theorem Inv.next_holds (ht : (stepRule s p).seqState = .acc ∨ (stepRule s p).seqState = .decode) :
    BufferHolds (stepRule s p).rxbuf (stepRule s p).rxCnt.toNat := by
  refine hv.next_bufferHolds h ?_
  rcases ht with ht | ht
  · exact ((enters_acc_iff s h).1 ht).1
  · have he := (enters_decode_iff s h).1 ht
    simp only [readEndsNow, decide_eq_true_eq] at he
    exact he.1

/-! ### The counters -/

/-- TMO_CNT counts to K_TMO, and the tick that reaches it ends the read. -/
theorem Inv.next_tmoCnt : (stepRule s p).tmoCnt.toNat ≤ Config.kTmo ∧
    ((stepRule s p).seqState = .hunt ∨ (stepRule s p).seqState = .acc → (stepRule s p).tmoCnt.toNat < Config.kTmo) := by
  rw [stepRule_tmoCnt s h]
  by_cases hl : lastSentNow s p = true ∧ s.seqState = .txQry
  · rw [if_pos hl]
    exact ⟨Nat.zero_le _, fun _ => by decide⟩
  rw [if_neg hl]
  cases hr : s.reading with
  | false =>
    refine ⟨by simpa using hv.tmoLegal, fun ht => ?_⟩
    rcases ht with ht | ht
    · rcases (enters_hunt_iff s h).1 ht with hs | ⟨hq, -, -⟩
      · exact absurd hs hl
      · simp [hq] at hr
    · have hr' := ((enters_acc_iff s h).1 ht).1
      simp [hr] at hr'
  | true =>
    have hlt := hv.tmoReading (reading_iff.1 hr)
    cases hk : p.tickMs with
    | false => exact ⟨by simpa using hlt.le, fun _ => by simpa using hlt⟩
    | true =>
      have hs : (s.tmoCnt + 1).toNat = s.tmoCnt.toNat + 1 :=
        toNat_add_one (lt_of_le_of_lt hlt (by decide))
      simp only [and_self, if_true, hs]
      refine ⟨hlt, fun ht => lt_of_not_ge fun hge => ?_⟩
      have he : readEndsNow s p = true :=
        decide_eq_true ⟨hr, .inr (decide_eq_true ⟨hr, hk, hs.symm ▸ hge⟩)⟩
      rw [← enters_decode_iff s h] at he
      simp [he] at ht

/-- SET_CNT counts to K_SETTLE, and the tick that reaches it ends SETTLE. -/
theorem Inv.next_setCnt : (stepRule s p).setCnt.toNat ≤ Config.kSettle ∧
    ((stepRule s p).seqState = .settle → (stepRule s p).setCnt.toNat < Config.kSettle) := by
  rw [stepRule_setCnt s h]
  by_cases hl : lastSentNow s p = true ∧ s.seqState = .txCmd
  · rw [if_pos hl]
    exact ⟨Nat.zero_le _, fun _ => by decide⟩
  rw [if_neg hl]
  by_cases hq : s.seqState = .settle
  · have hlt := hv.setSettling hq
    cases hk : p.tickMs with
    | false => exact ⟨by simpa using hlt.le, fun _ => by simpa using hlt⟩
    | true =>
      have hs : (s.setCnt + 1).toNat = s.setCnt.toNat + 1 :=
        toNat_add_one (lt_of_le_of_lt hlt (by decide))
      rw [if_pos ⟨hq, rfl⟩, hs]
      refine ⟨hlt, fun ht => lt_of_not_ge fun hge => ?_⟩
      obtain ⟨-, hn⟩ := ((enters_settle_iff s h).1 ht).resolve_left hl
      exact absurd (decide_eq_true ⟨hq, hk, hs.symm ▸ hge⟩) (ne_true_of_eq_false hn)
  · rw [if_neg fun hc => hq hc.1]
    refine ⟨hv.setLegal, fun ht => ?_⟩
    obtain ⟨hq', -⟩ := ((enters_settle_iff s h).1 ht).resolve_left hl
    exact absurd hq' hq

theorem Inv.next_refCnt : (stepRule s p).refCnt.toNat ≤ Config.kRefresh := by
  rw [stepRule_refCnt s h]
  split_ifs with _ hk
  · exact Nat.zero_le _
  · rw [toNat_add_one (lt_of_le_of_lt hk.2 (by decide))]
    exact hk.2
  · exact hv.refLegal

/-! ### DS and REQ -/

theorem Inv.next_ds : (1 ≤ (stepRule s p).ds.mode.toNat ∧ (stepRule s p).ds.mode.toNat ≤ 5) ∧
    (stepRule s p).ds.speed.toNat ≤ 5 ∧
    16 ≤ (stepRule s p).ds.setptInt.toNat ∧ (stepRule s p).ds.setptInt.toNat ≤ 31 := by
  rw [stepRule_ds s h]
  split_ifs
  · exact ⟨decodedDs_mode_bounds s, decodedDs_speed_le hv.speedLegal, decodedDs_setpt_bounds s⟩
  · exact ⟨hv.modeLegal, hv.speedLegal, hv.setptLegal⟩

theorem Inv.next_req : (stepRule s p).req &&& ~~~reqMask = 0 := by
  rw [stepRule_req s h]
  split_ifs
  · rw [BitVec.and_assoc, BitVec.and_not_self]
    exact BitVec.and_zero
  · exact hv.reqReserved

/-- A cycle without reset keeps the invariants. -/
theorem Inv.next : Inv (stepRule s p) := by
  obtain ⟨hcmd, hqry, helse⟩ := hv.next_txIdx h
  obtain ⟨htmo, htmoReading⟩ := hv.next_tmoCnt h
  obtain ⟨hset, hsettling⟩ := hv.next_setCnt h
  obtain ⟨hmode, hspeed, hsetpt⟩ := hv.next_ds h
  exact {
    modeLegal := hmode
    speedLegal := hspeed
    setptLegal := hsetpt
    rxCntLegal := hv.next_rxCnt_le h
    txCmdIdx := hcmd
    txQryIdx := hqry
    txIdxElsewhere := helse
    noByteYet := fun ht => (hv.next_empty h ht).1
    bufferClear := fun ht => (hv.next_empty h ht).2
    markerFirst := fun ht => (hv.next_holds h ht).marker
    zeroBeyond := fun ht => (hv.next_holds h ht).zeros
    accCount := hv.next_accCount h
    tmoLegal := htmo
    tmoReading := htmoReading
    setLegal := hset
    setSettling := hsettling
    refLegal := hv.next_refCnt h
    reqReserved := hv.next_req h }

end Step

/-! ### The reset state -/

theorem reset_rxByte (i : Nat) : State.reset.rxByte i = 0 := getD_rxbufZero i

theorem reset_cmdByte {i : Nat} (hi : i < Config.kCmdLen) : State.reset.cmdByte i = Config.cmdTemplate i := by
  simp [State.cmdByte, State.reset, cmdReset, hi]

theorem inv_reset : Inv State.reset where
  modeLegal := by decide
  speedLegal := by decide
  setptLegal := by decide
  rxCntLegal := by decide
  txCmdIdx := by decide
  txQryIdx := by decide
  txIdxElsewhere := by decide
  noByteYet := by decide
  bufferClear := fun _ i _ => reset_rxByte i
  markerFirst := by decide
  zeroBeyond := fun _ i _ _ => reset_rxByte i
  accCount := by decide
  tmoLegal := by decide
  tmoReading := by decide
  setLegal := by decide
  setSettling := by decide
  refLegal := by decide
  reqReserved := by decide

/-- A reset cycle leaves every state element at its reset value. -/
theorem sameBlock_stepRule_rst {s : State} {p : Inputs} (h : p.rst = true) : sameBlock State.reset (stepRule s p) := by
  rw [stepRule, if_pos h]
  rfl

end Sys2Proof.Machine
end

section
/-! PROOF. The encoder keeps the template (10_state.md R40), and the checksum's fold (41_checksum.md R170). -/

namespace Sys2Proof.Machine

/-! ## The checksum's fold (41_checksum.md R170) -/

/-- A fold from any byte is that byte and the fold from 0x00. -/
theorem foldl_xor (x : Byte) (l : List Byte) : l.foldl (· ^^^ ·) x = x ^^^ l.foldl (· ^^^ ·) 0 := by
  simpa using List.foldl_assoc (op := fun a b : Byte => a ^^^ b) (l := l) (a₁ := x) (a₂ := 0)

/-- A fold over two adjoining ranges. -/
theorem xorFold_split (l : List Byte) {a m b : Nat} (h1 : a ≤ m) (h2 : m ≤ b) :
    xorFold l a b = xorFold l a m ^^^ xorFold l (m + 1) b := by
  have hn : b + 1 - a = (m + 1 - a) + (b + 1 - (m + 1)) := by omega
  have hd : (l.drop a).drop (m + 1 - a) = l.drop (m + 1) := by
    rw [List.drop_drop]
    congr 1
    omega
  unfold xorFold
  rw [hn, List.take_add, hd, List.foldl_append, foldl_xor]

/-- Two lists that agree on a range have the same fold over it. -/
theorem xorFold_congr {l l' : List Byte} {a b : Nat} (h : ∀ i, a ≤ i → i ≤ b → l[i]? = l'[i]?) :
    xorFold l a b = xorFold l' a b := by
  unfold xorFold
  congr 1
  apply List.ext_getElem?
  intro k
  simp only [List.getElem?_take, List.getElem?_drop]
  split_ifs with hk
  · exact h _ (Nat.le_add_right _ _) (by omega)
  · rfl

/-- The fold of one byte. -/
theorem xorFold_self {l : List Byte} {a : Nat} {b : Byte} (h : l[a]? = some b) : xorFold l a a = b := by
  obtain ⟨ha, rfl⟩ := List.getElem?_eq_some_iff.1 h
  unfold xorFold
  rw [Nat.add_sub_cancel_left, List.take_one_drop_eq_of_lt_length ha]
  simp

/-! ## The frame ENCODE writes -/

/-- The checksum byte alone changes. -/
theorem withChecksum_byte (f : Vector Byte Config.kCmdLen) (i : Nat) :
    (withChecksum f)[i]?.getD 0 = if 34 = i then xorFold f.toList 0 33 else f[i]?.getD 0 :=
  getD_setIfInBounds _ _ _ _ (by decide)

/-- The frame ENCODE writes, before its checksum (40_encoder.md R140). -/
def encodeFields (req : Word) (ds : DeviceState) (cmd : Vector Byte Config.kCmdLen) : Vector Byte Config.kCmdLen :=
  ((((cmd.setIfInBounds 7 (encodeByte7 (cmd[7]?.getD 0) req ds)).setIfInBounds 8
    (encodeByte8 (cmd[8]?.getD 0) req ds)).setIfInBounds 9 (tempCode req ds)).setIfInBounds 10
    (speedCode (speedSel req ds))).setIfInBounds 11 (encodeByte11 (cmd[11]?.getD 0) req)

theorem encodeFrame_eq (req : Word) (ds : DeviceState) (cmd : Vector Byte Config.kCmdLen) :
    encodeFrame req ds cmd = withChecksum (encodeFields req ds cmd) := rfl

theorem encodeFields_byte (req : Word) (ds : DeviceState) (cmd : Vector Byte Config.kCmdLen) (i : Nat) :
    (encodeFields req ds cmd)[i]?.getD 0 =
      if 11 = i then encodeByte11 (cmd[11]?.getD 0) req
      else if 10 = i then speedCode (speedSel req ds)
      else if 9 = i then tempCode req ds
      else if 8 = i then encodeByte8 (cmd[8]?.getD 0) req ds
      else if 7 = i then encodeByte7 (cmd[7]?.getD 0) req ds
      else cmd[i]?.getD 0 := by
  unfold encodeFields
  rw [getD_setIfInBounds _ _ _ _ (by decide), getD_setIfInBounds _ _ _ _ (by decide),
    getD_setIfInBounds _ _ _ _ (by decide), getD_setIfInBounds _ _ _ _ (by decide),
    getD_setIfInBounds _ _ _ _ (by decide)]

/-- Every byte of CMD but the checksum after ENCODE. -/
theorem encodeCmd_byte (s : State) {i : Nat} (hi : 34 ≠ i) :
    s.encodeCmd.cmdByte i = (encodeFields s.req s.ds s.cmd)[i]?.getD 0 := by
  rw [State.cmdByte, State.encodeCmd_cmd, encodeFrame_eq, withChecksum_byte, if_neg hi]

/-! ## The bits the encoder owns (30_encoding.md R101, R102, R105) -/

/-- Bits outside a mask do not show through it. -/
theorem or_and_mask {w : Nat} {x y m : BitVec w} (h : y &&& m = 0#w) : (x ||| y) &&& m = x &&& m := by
  rw [BitVec.and_or_distrib_right, h, BitVec.or_zero]

/-- Masking twice is masking once. -/
theorem and_mask_self {w : Nat} (x m : BitVec w) : x &&& m &&& m = x &&& m := by
  rw [BitVec.and_assoc, BitVec.and_self]

theorem modeCode_mask (i : Nat) : modeCode i &&& 0xB0 = 0#8 := by
  unfold modeCode
  have hall : ∀ b ∈ Config.modeTable, b &&& 0xB0#8 = 0#8 := by simp [Config.modeTable]
  cases hb : Config.modeTable[i - 1]? with
  | none => rfl
  | some b => exact hall b (List.mem_of_getElem? hb)

theorem encodeByte7_mask (old : Byte) (req : Word) (ds : DeviceState) :
    encodeByte7 old req ds &&& 0x7B = old &&& 0x7B := by
  have h7 : ∀ b, bitAt b 7 &&& 0x7B = 0#8 := by decide
  have h2 : ∀ b, bitAt b 2 &&& 0x7B = 0#8 := by decide
  rw [encodeByte7, or_and_mask (h2 _), or_and_mask (h7 _), and_mask_self]

theorem encodeByte8_mask (old : Byte) (req : Word) (ds : DeviceState) :
    encodeByte8 old req ds &&& 0xB0 = old &&& 0xB0 := by
  have h6 : ∀ b, bitAt b 6 &&& 0xB0 = 0#8 := by decide
  rw [encodeByte8, or_and_mask (modeCode_mask _), or_and_mask (h6 _), and_mask_self]

theorem encodeByte11_mask (old : Byte) (req : Word) : encodeByte11 old req &&& 0xFD = old &&& 0xFD := by
  have h1 : ∀ b, bitAt b 1 &&& 0xFD = 0#8 := by decide
  rw [encodeByte11, or_and_mask (h1 _), and_mask_self]

/-! ## The template -/

/-- ENCODE keeps every byte and bit the encoder does not own. -/
theorem TemplateKept.encodeCmd {s : State} (ht : TemplateKept s) : TemplateKept s.encodeCmd := by
  obtain ⟨hbytes, h7, h8, h11⟩ := ht
  refine ⟨fun i hi => ?_, ?_, ?_, ?_⟩
  · rw [encodeCmd_byte s (by omega), encodeFields_byte, if_neg (by omega), if_neg (by omega), if_neg (by omega),
      if_neg (by omega), if_neg (by omega)]
    exact hbytes i hi
  · rw [encodeCmd_byte s (by decide), encodeFields_byte]
    exact (encodeByte7_mask _ _ _).trans h7
  · rw [encodeCmd_byte s (by decide), encodeFields_byte]
    exact (encodeByte8_mask _ _ _).trans h8
  · rw [encodeCmd_byte s (by decide), encodeFields_byte]
    exact (encodeByte11_mask _ _).trans h11

/-- The template predicate reads CMD alone. -/
theorem TemplateKept.of_cmd_eq {s t : State} (h : t.cmd = s.cmd) (ht : TemplateKept s) : TemplateKept t := by
  unfold TemplateKept State.cmdByte
  rw [h]
  exact ht

theorem templateKept_reset : TemplateKept State.reset :=
  ⟨fun i hi => reset_cmdByte (by rw [Config.kCmdLen]; omega), by rw [reset_cmdByte (by decide)],
    by rw [reset_cmdByte (by decide)], by rw [reset_cmdByte (by decide)]⟩

/-- A cycle keeps CMD, encodes it, or resets it. -/
theorem TemplateKept.next {s : State} (ht : TemplateKept s) (p : Inputs) : TemplateKept (stepRule s p) := by
  cases h : p.rst with
  | true =>
    refine templateKept_reset.of_cmd_eq ?_
    rw [stepRule, if_pos h]
    rfl
  | false =>
    have hc := stepRule_cmd s h
    cases ha : applyNow s p with
    | true => exact ht.encodeCmd.of_cmd_eq (by simpa [ha] using hc)
    | false => exact ht.of_cmd_eq (by simpa [ha] using hc)

/-- The checksum's fold with the encoder's bytes taken out of its middle. -/
theorem xorFold_frame {l : List Byte} {b7 b8 b9 b10 b11 : Byte} (h7 : l[7]? = some b7) (h8 : l[8]? = some b8)
    (h9 : l[9]? = some b9) (h10 : l[10]? = some b10) (h11 : l[11]? = some b11) :
    xorFold l 0 33 = xorFold l 0 6 ^^^ xorFold l 12 33 ^^^ b7 ^^^ b8 ^^^ b9 ^^^ b10 ^^^ b11 := by
  rw [xorFold_split l (by decide : 0 ≤ 6) (by decide : 6 ≤ 33), xorFold_split l (le_refl 7) (by decide : 7 ≤ 33),
    xorFold_split l (le_refl 8) (by decide : 8 ≤ 33), xorFold_split l (le_refl 9) (by decide : 9 ≤ 33),
    xorFold_split l (le_refl 10) (by decide : 10 ≤ 33), xorFold_split l (le_refl 11) (by decide : 11 ≤ 33),
    xorFold_self h7, xorFold_self h8, xorFold_self h9, xorFold_self h10, xorFold_self h11]
  generalize xorFold l 0 6 = x, xorFold l 12 33 = y
  ac_rfl

/-- The bytes the checksum covers are those the frame keeps. -/
theorem encodeFields_getElem? (s : State) {i : Nat} (hi : i < 34) :
    (encodeFields s.req s.ds s.cmd).toList[i]? = some (s.encodeCmd.cmdByte i) := by
  rw [encodeCmd_byte s (by omega), Vector.getElem?_toList]
  simp [show i < 35 by omega]

/-- Over bytes of the template alone, the fold of the encoded frame is the template's. -/
theorem xorFold_encodeFields {s : State} (ht : TemplateKept s) {a b : Nat}
    (hab : ∀ i, a ≤ i → i ≤ b → i ≤ 6 ∨ (12 ≤ i ∧ i ≤ 33)) :
    xorFold (encodeFields s.req s.ds s.cmd).toList a b = xorFold ((List.range 35).map Config.cmdTemplate) a b := by
  obtain ⟨hbytes, -⟩ := ht.encodeCmd
  refine xorFold_congr fun i ha hb => ?_
  have hi := hab i ha hb
  rw [encodeFields_getElem? s (by omega), hbytes i hi]
  simp [show i < 35 by omega]

theorem encodeCmd_checksum (s : State) :
    s.encodeCmd.cmdByte 34 = xorFold (encodeFields s.req s.ds s.cmd).toList 0 33 := by
  rw [State.cmdByte, State.encodeCmd_cmd, encodeFrame_eq, withChecksum_byte]
  rfl

end Sys2Proof.Machine
end

section
/-! PROOF. The statements of 10_state.md. -/

namespace Sys2Proof.Machine

/-- Settles O51: a cycle without reset keeps each group of R65's lines, a reset cycle gives the reset state. -/
theorem invKept : Obligations.InvKept := by
  intro s t hv hs
  rw [step_eq_stepRule hv.indexInRange] at hs
  obtain rfl : stepRule s s.ports = t := by simpa using hs
  cases h : s.ports.rst with
  | true => exact inv_reset.of_sameBlock (sameBlock_stepRule_rst h)
  | false => exact hv.next h

/-- Settles O53: CMD changes by ENCODE and by reset alone, and both keep the template. -/
theorem templateKeptByStep : Obligations.TemplateKeptByStep := by
  refine ⟨fun s t hi ht hs => ?_, fun s t ht he => ?_⟩
  · rw [step_eq_stepRule hi] at hs
    obtain rfl : stepRule s s.ports = t := by simpa using hs
    exact ht.next s.ports
  · obtain rfl : s.encodeCmd = t := by simpa [exec, execEncode] using he
    rw [encodeCmd_checksum, xorFold_frame (encodeFields_getElem? s (by decide)) (encodeFields_getElem? s (by decide))
      (encodeFields_getElem? s (by decide)) (encodeFields_getElem? s (by decide))
      (encodeFields_getElem? s (by decide)), xorFold_encodeFields ht (by omega), xorFold_encodeFields ht (by omega)]

/-! ### Views -/

theorem statusView_state (s : State) : (statusView s).extractLsb' 0 3 = seqCode s.seqState := by
  simp [statusView, BitVec.extractLsb'_or, fieldAt_extract, fieldAt_extract_outside]

theorem statusView_busy (s : State) : (statusView s).getLsbD 3 = s.busy := by
  simp only [statusView, BitVec.getLsbD_or, fieldAt_getLsbD]
  simp

theorem statusView_refDue (s : State) : (statusView s).getLsbD 4 = s.refDue := by
  simp only [statusView, BitVec.getLsbD_or, fieldAt_getLsbD]
  simp

theorem statusView_lastValid (s : State) : (statusView s).getLsbD 5 = s.lastValid := by
  simp only [statusView, BitVec.getLsbD_or, fieldAt_getLsbD]
  simp

theorem statusView_origin (s : State) : (statusView s).extractLsb' 6 2 = originCode s.origin := by
  simp [statusView, BitVec.extractLsb'_or, fieldAt_extract, fieldAt_extract_outside]

theorem statusView_rxCnt (s : State) : (statusView s).extractLsb' 8 7 = s.rxCnt := by
  simp [statusView, BitVec.extractLsb'_or, fieldAt_extract, fieldAt_extract_outside]

theorem statusView_txIdx (s : State) : (statusView s).extractLsb' 16 6 = s.txIdx := by
  simp [statusView, BitVec.extractLsb'_or, fieldAt_extract, fieldAt_extract_outside]

/-- The bits of STATUS that no field takes. -/
theorem statusView_reserved (s : State) :
    (statusView s).getLsbD 15 = false ∧ (statusView s).extractLsb' 22 10 = 0 := by
  constructor
  · simp only [statusView, BitVec.getLsbD_or, fieldAt_getLsbD]
    simp
  · simp [statusView, BitVec.extractLsb'_or, fieldAt_extract_outside]

/-- Settles O20: each field of STATUS is read back at its place. -/
theorem statusFields : Obligations.StatusFields :=
  ⟨fun s => ⟨statusView_state s, statusView_busy s, statusView_refDue s, statusView_lastValid s, statusView_origin s,
    statusView_rxCnt s, (statusView_reserved s).1, statusView_txIdx s, (statusView_reserved s).2⟩, by decide⟩

/-- The fan mode as a table over the speed index (42_decoder.md R191). -/
theorem fanModeOf_eq : ∀ n : BitVec 3, fanModeOf n = ([0, 1, 2, 3, 3, 3] : List (BitVec 2)).getD n.toNat 0 := by
  decide

/-- Settles O21: each field of DEV0 is read back at its place, the derived ones through their tables. -/
theorem dev0Fields : Obligations.Dev0Fields := by
  refine ⟨fun s => ?_, by decide, by decide⟩
  simp only [dev0View, BitVec.getLsbD_or, BitVec.extractLsb'_or, fieldAt_getLsbD, ← fanModeOf_eq]
  simp [fieldAt_extract, fieldAt_extract_outside, presetOf]

/-- Settles O22: each field of DEV1, TMR0 and TMR1 is read back at its place. -/
theorem dev1AndTimerFields : Obligations.Dev1AndTimerFields := by
  refine ⟨fun s => ?_, by decide⟩
  simp [dev1View, wordOfBytes, tmr0View, tmr1View, BitVec.extractLsb'_or, fieldAt_extract, fieldAt_extract_outside]

/-! ### Registers over a cycle -/

/-- Settles O48: the counters' next values of R254, where POLL_START is the entry into TX_QRY. -/
theorem freeRunningCounters : Obligations.FreeRunningCounters := by
  refine ⟨fun s hi h => ⟨_, step_eq_stepRule hi, ?_, ?_⟩, fun s => rfl, rfl, rfl⟩
  · rw [stepRule_now s h]
    split_ifs
    · exact BitVec.toNat_add _ _
    · rfl
  · rw [stepRule_refCnt s h]
    simp only [← pollStartNow_iff s h]
    split_ifs with hp ht
    · rfl
    · obtain ⟨-, hlt⟩ := ht
      exact toNat_add_one (lt_of_le_of_lt hlt (by decide))
    · rfl

/-- Settles O49: each register's next value of R254, where the condition that writes it does not hold. -/
theorem registersKeepTheirValue : Obligations.RegistersKeepTheirValue := by
  intro s p hp hi h
  subst hp
  refine ⟨_, step_eq_stepRule hi, ?ds, ?lastValid, ?cmd, ?req, ?ien, ?origin, ?rxbuf, ?tmoCnt, ?setCnt, ?txIdx⟩
  case ds =>
    intro hn
    have hv : ¬ (s.seqState = .decode ∧ s.replyValid = true) := by
      simpa [State.replyValid, Config.kStart, Config.kReply] using hn
    rw [stepRule_ds s h, stepRule_tLastPoll s h, if_neg hv, if_neg hv]
    exact ⟨rfl, rfl⟩
  case lastValid =>
    intro hq
    rw [stepRule_lastValid s h, if_neg hq]
  case cmd =>
    intro hn
    have ha : applyNow s s.ports = false := by simpa [applyNow] using hn
    simp [stepRule_cmd s h, stepRule_tLastCmd s h, ha]
  case req =>
    intro hn
    rw [stepRule_req s h, if_neg hn]
  case ien =>
    intro hn
    rw [stepRule_ien s h, if_neg hn]
  case origin =>
    intro hn
    rw [← exchangeStarts_iff s h, not_or, not_or] at hn
    obtain ⟨ha, hr, hp⟩ := hn
    rw [stepRule_origin s h, if_neg ha, if_neg hr, if_neg hp]
  case rxbuf =>
    intro hh ha hn
    rw [← pollStartNow_iff s h] at hn
    simp [stepRule_rxbuf s h, stepRule_rxCnt s h, cntNow, hn, hh, ha]
  case tmoCnt =>
    intro hh ha hn
    rw [← querySent_iff s h] at hn
    rw [stepRule_tmoCnt s h, if_neg hn, if_neg (by simp [State.reading, hh, ha])]
  case setCnt =>
    intro hs hn
    rw [← commandSent_iff s h] at hn
    rw [stepRule_setCnt s h, if_neg hn, if_neg (by simp [hs])]
  case txIdx =>
    intro hc hq hc' hq'
    have ha : ¬ applyNow s s.ports = true := fun ha => hc' ((applyNow_iff s h).1 ha).2
    have hp : ¬ pollStartNow s s.ports = true := fun hp => hq' ((pollStartNow_iff s h).1 hp).2
    simp [stepRule_txIdx s h, ha, hp, hc, hq]

/-! ### Reset -/

/-- Settles O5: the table is the definition, the two arrays byte by byte. -/
theorem resetStateValues : Obligations.ResetStateValues :=
  ⟨rfl, rfl, rfl, rfl, fun _ hi => reset_cmdByte hi, fun i _ => reset_rxByte i, rfl, rfl, rfl, rfl, rfl, rfl, rfl, rfl,
    rfl, rfl, rfl⟩

/-- Settles O6: the base case of O51 and O53. -/
theorem invAtReset : Obligations.InvAtReset := ⟨inv_reset, templateKept_reset⟩

end Sys2Proof.Machine
end

section
/-! PROOF. The statements of 20_memory.md. -/

namespace Sys2Proof.Machine

/-! ### The low address bits (R83) -/

/-- A transaction given by its fields is the one on the ports of a cycle with these bus inputs. -/
theorem hostTxn_eq_txn (we : Bool) (addr : BitVec 8) (data : Word) :
    hostTxn we addr data = (Inputs.quiet.withBus we addr data).txn :=
  (txn_eq_fields (Inputs.quiet.withBus we addr data)).symm

@[simp] theorem txnWe_hostTxn (we : Bool) (addr : BitVec 8) (data : Word) : txnWe (hostTxn we addr data) = we := by
  rw [hostTxn_eq_txn, txnWe_txn]
  rfl

@[simp] theorem txnIndex_hostTxn (we : Bool) (addr : BitVec 8) (data : Word) :
    txnIndex (hostTxn we addr data) = (addr.extractLsb' 2 6).toNat := by
  rw [hostTxn_eq_txn, txnIndex_txn]
  rfl

@[simp] theorem txnData_hostTxn (we : Bool) (addr : BitVec 8) (data : Word) :
    txnData (hostTxn we addr data) = data := by
  rw [hostTxn_eq_txn, txnData_txn]
  rfl

/-- The outcome of a transaction reads WE, the word index and DATA alone, not the low address bits its operation
carries. -/
theorem exec_decodeTxn_congr {v w : Txn} (hwe : txnWe v = txnWe w) (hk : txnIndex v = txnIndex w)
    (hd : txnData v = txnData w) (s : State) : exec (decodeTxn v) s = exec (decodeTxn w) s := by
  have hw : hostWrites v s = hostWrites w s := by simp only [hostWrites, txnOp_eq, hwe, hk, hd]
  rw [exec_decodeTxn, exec_decodeTxn, hw, hk]

/-- Clearing the two low bits of an offset keeps its word index. -/
theorem extract_and_FC (addr : BitVec 8) : (addr &&& 0xFC).extractLsb' 2 6 = addr.extractLsb' 2 6 := by
  rw [BitVec.extractLsb'_and]
  exact BitVec.and_allOnes

/-- Settles O4: both offsets have one word index, and every transaction word answers a next state. -/
theorem addressLowBitsIgnored : Obligations.AddressLowBitsIgnored := by
  refine fun we addr data s => ⟨exec_decodeTxn_congr ?_ ?_ ?_ s, _, exec_decodeTxn _ s⟩
  · rw [txnWe_hostTxn, txnWe_hostTxn]
  · rw [txnIndex_hostTxn, txnIndex_hostTxn, extract_and_FC]
  · rw [txnData_hostTxn, txnData_hostTxn]

/-! ### The buffer windows (R82) -/

/-- Byte j of a word made of four bytes, counted from the low bits. -/
theorem wordOfBytes_byte (f : Nat → Byte) {j : Nat} (hj : j < 4) :
    (wordOfBytes (f 3) (f 2) (f 1) (f 0)).extractLsb' (8 * j) 8 = f j := by
  interval_cases j <;> simp [wordOfBytes, BitVec.extractLsb'_or, fieldAt_extract, fieldAt_extract_outside]

/-- Byte i of CMD stands in window word i div 4, at byte i mod 4. -/
theorem cmdWindow_byte (s : State) (i : Nat) :
    (cmdWindow s (i / 4)).extractLsb' (8 * (i % 4)) 8 = s.cmdByte i := by
  have h := wordOfBytes_byte (fun j => s.cmdByte (4 * (i / 4) + j)) (Nat.mod_lt i (by decide))
  rwa [Nat.div_add_mod] at h

/-- Byte i of RXBUF stands in window word i div 4, at byte i mod 4. -/
theorem rxWindow_byte (s : State) (i : Nat) :
    (rxWindow s (i / 4)).extractLsb' (8 * (i % 4)) 8 = s.rxByte i := by
  have h := wordOfBytes_byte (fun j => s.rxByte (4 * (i / 4) + j)) (Nat.mod_lt i (by decide))
  rwa [Nat.div_add_mod] at h

/-- The nine words from offset 0x40 are the CMDBUF window. -/
theorem hostView_cmdWindow (s : State) {k : Nat} (hk : k ≤ 8) : hostView s ((0x40 + 4 * k) / 4) = cmdWindow s k := by
  interval_cases k <;> rfl

/-- The twenty words from offset 0x80 are the RXBUF window. -/
theorem hostView_rxWindow (s : State) {k : Nat} (hk : k ≤ 19) : hostView s ((0x80 + 4 * k) / 4) = rxWindow s k := by
  interval_cases k <;> rfl

/-- CMD has no byte past CMD[34]. -/
theorem cmdByte_past (s : State) {i : Nat} (hi : 35 ≤ i) : s.cmdByte i = 0x00 := by
  rw [State.cmdByte, Vector.getElem?_eq_none hi]
  rfl

/-- Settles O23: each byte by its window's rule, the byte past CMD[34] as byte 35 of the window. -/
theorem windowByteOrder : Obligations.WindowByteOrder := by
  refine fun s => ⟨fun i hi => ?_, ?_, fun i hi _ => cmdByte_past s hi, fun i hi => ?_⟩
  · rw [hostView_cmdWindow s (by omega), cmdWindow_byte]
  · exact (cmdWindow_byte s 35).trans (cmdByte_past s (by decide))
  · rw [hostView_rxWindow s (by omega), rxWindow_byte]

end Sys2Proof.Machine
end

section
/-! PROOF. A transaction word is its fields (30_encoding.md R115), and what the decoder reads by word index
(45_host_bus.md R296). -/

namespace Sys2Proof.Machine

/-! ### A word put together from the fields read from it -/

/-- Two fields of a word that stand side by side are one field of it. -/
theorem txnField_join (w : Txn) {m n a b : Nat} (h : n + a = m) :
    txnField (w.extractLsb' m b) m ||| txnField (w.extractLsb' n a) n = txnField (w.extractLsb' n (a + b)) n := by
  subst h
  apply BitVec.eq_of_getLsbD_eq
  intro i hi
  simp only [BitVec.getLsbD_or, getLsbD_txnField, BitVec.getLsbD_extractLsb']
  by_cases h1 : n ≤ i
  · by_cases h2 : n + a ≤ i
    · have hb : i - (n + a) < b ↔ i - n < a + b := by omega
      simp [h1, h2, hb, show ¬ i - n < a by omega, Nat.add_sub_cancel' h1, Nat.add_sub_cancel' h2]
    · simp [h2, show i - n < a by omega, show i - n < a + b by omega]
  · simp [h1, show ¬ n + a ≤ i by omega]

/-- The field of all bits is the word. -/
theorem txnField_all (w : Txn) : txnField w 0 = w := by simp [txnField]

/-- WE as a field of one bit. -/
theorem ofBool_txnWe (w : Txn) : BitVec.ofBool (txnWe w) = w.extractLsb' 40 1 := by
  apply BitVec.eq_of_getLsbD_eq
  intro i hi
  obtain rfl : i = 0 := by omega
  simp [txnWe]

/-- ADDR[7:2] is the word index. -/
theorem ofNat_txnIndex (w : Txn) : BitVec.ofNat 6 (txnIndex w) = w.extractLsb' 34 6 := by
  rw [txnIndex, BitVec.ofNat_toNat, BitVec.setWidth_eq]

/-- The high bits of ADDR[7:2] are the word index without its j low bits. -/
theorem extract_indexHigh {w : Txn} {j n : Nat} {hi : BitVec n} (hn : 6 = j + n)
    (h : txnIndex w / 2 ^ j = hi.toNat) : hi = w.extractLsb' (34 + j) n := by
  apply BitVec.eq_of_toNat_eq
  rw [← h, txnIndex, BitVec.extractLsb'_toNat, BitVec.extractLsb'_toNat, hn, Nat.pow_add, Nat.mod_mul_right_div_self,
    Nat.shiftRight_add, Nat.shiftRight_eq_div_pow _ j]

theorem txnWord_fields (w : Txn) :
    txnWord (txnWe w) (BitVec.ofNat 6 (txnIndex w)) (txnLane w) (txnData w) = w := by
  simp [txnWord, ofBool_txnWe, ofNat_txnIndex, txnLane, txnData, txnField_join, txnField_all]

/-- A CTRL write word is a write word of index 0 whose data ends with OP (30_encoding.md R114). -/
theorem ctrlWord_eq_txnWord (w : Txn) :
    ctrlWord (txnOp w) (txnLane w) (txnRest w) = txnWord true 0 (txnLane w) (txnData w) := by
  have hdata : txnField (txnRest w) 2 ||| txnField (txnOp w) 0 = txnField (txnData w) 0 := txnField_join w rfl
  have hindex : txnField 0#6 34 = 0#41 := rfl
  show txnField 1#1 40 ||| _ ||| _ ||| _ = txnField 1#1 40 ||| txnField 0#6 34 ||| _ ||| _
  rw [hindex, BitVec.or_zero, BitVec.or_assoc _ (txnField (txnRest w) 2), hdata]

theorem ctrlWord_fields {w : Txn} (hwe : txnWe w = true) (hk : txnIndex w = 0) :
    ctrlWord (txnOp w) (txnLane w) (txnRest w) = w := by
  have h := txnWord_fields w
  rw [hwe, hk] at h
  exact (ctrlWord_eq_txnWord w).trans h

theorem unmappedWord4_fields {w : Txn} {hi : BitVec 4} (h : txnIndex w / 4 = hi.toNat) :
    unmappedWord4 (txnWe w) hi (txnLow4 w) (txnData w) = w := by
  have hhi : hi = w.extractLsb' 36 4 := extract_indexHigh (j := 2) rfl h
  simp [unmappedWord4, ofBool_txnWe, hhi, txnLow4, txnData, txnField_join, txnField_all]

theorem unmappedWord5_fields {w : Txn} {hi : BitVec 3} (h : txnIndex w / 8 = hi.toNat) :
    unmappedWord5 (txnWe w) hi (txnLow5 w) (txnData w) = w := by
  have hhi : hi = w.extractLsb' 37 3 := extract_indexHigh (j := 3) rfl h
  simp [unmappedWord5, ofBool_txnWe, hhi, txnLow5, txnData, txnField_join, txnField_all]

/-! ### The decoder, by word index -/

section Rows
variable {w : Txn}

theorem decodeTxn_ctrlWrite (hwe : txnWe w = true) (hk : txnIndex w = 0) : decodeTxn w = decodeCtrl w := by
  rw [decodeTxn, if_pos hwe, hk]
  rfl

theorem decodeTxn_30To3C (h : txnIndex w / 4 = 3) : decodeTxn w =
    if txnWe w then .wrUnmapped30To3C (txnLow4 w) (txnData w) else .rdUnmapped30To3C (txnLow4 w) (txnData w) := by
  obtain hk | hk | hk | hk : txnIndex w = 12 ∨ txnIndex w = 13 ∨ txnIndex w = 14 ∨ txnIndex w = 15 := by omega
  all_goals rw [decodeTxn, hk]; rfl

theorem decodeTxn_70To7C (h : txnIndex w / 4 = 7) : decodeTxn w =
    if txnWe w then .wrUnmapped70To7C (txnLow4 w) (txnData w) else .rdUnmapped70To7C (txnLow4 w) (txnData w) := by
  obtain hk | hk | hk | hk : txnIndex w = 28 ∨ txnIndex w = 29 ∨ txnIndex w = 30 ∨ txnIndex w = 31 := by omega
  all_goals rw [decodeTxn, hk]; rfl

theorem decodeTxn_D0ToDC (h : txnIndex w / 4 = 13) : decodeTxn w =
    if txnWe w then .wrUnmappedD0ToDC (txnLow4 w) (txnData w) else .rdUnmappedD0ToDC (txnLow4 w) (txnData w) := by
  obtain hk | hk | hk | hk : txnIndex w = 52 ∨ txnIndex w = 53 ∨ txnIndex w = 54 ∨ txnIndex w = 55 := by omega
  all_goals rw [decodeTxn, hk]; rfl

theorem decodeTxn_E0ToFC (h : txnIndex w / 8 = 7) : decodeTxn w =
    if txnWe w then .wrUnmappedE0ToFC (txnLow5 w) (txnData w) else .rdUnmappedE0ToFC (txnLow5 w) (txnData w) := by
  obtain ⟨k, hk, hk1, hk2⟩ : ∃ k, txnIndex w = k ∧ 56 ≤ k ∧ k < 64 := ⟨_, rfl, by omega, by omega⟩
  rw [decodeTxn, hk]
  interval_cases k <;> rfl

end Rows

/-- A row of one word index, with the low address bits and the data as its operands, has its word decoded to them. -/
theorem decodeTxn_txnWord {row : BitVec 2 → Word → Instr} {we : Bool} {k : BitVec 6}
    (hrow : ∀ w, (if we then decodeWrite k.toNat w else decodeRead k.toNat w) = row (txnLane w) (txnData w))
    (lane : BitVec 2) (data : Word) : decodeTxn (txnWord we k lane data) = row lane data := by
  rw [decodeTxn, txnWe_txnWord, txnIndex_txnWord, hrow, txnLane_txnWord, txnData_txnWord]

theorem decodeTxn_ctrlWord (op lane : BitVec 2) (rest : BitVec 30) :
    decodeTxn (ctrlWord op lane rest) =
      if op = 0 then .wrCtrlNop lane rest else if op = 1 then .wrCtrlApply lane rest
      else if op = 2 then .wrCtrlRefresh lane rest else .wrCtrlBadop lane rest := by
  rw [decodeTxn_ctrlWrite (txnWe_ctrlWord ..) (txnIndex_ctrlWord ..), decodeCtrl, txnOp_ctrlWord, txnLane_ctrlWord,
    txnRest_ctrlWord]

/-- The high part of two joined bit vectors. -/
theorem toNat_append_div {m n : Nat} (x : BitVec m) (y : BitVec n) : (x ++ y).toNat / 2 ^ n = x.toNat := by
  rw [BitVec.toNat_append, ← Nat.shiftRight_eq_div_pow, Nat.shiftRight_or_distrib, Nat.shiftLeft_shiftRight,
    Nat.shiftRight_eq_div_pow y.toNat, Nat.div_eq_of_lt y.isLt, Nat.or_zero]

/-- A word of a range of four words has its index in the range. -/
theorem txnIndex_unmappedWord4_div (we : Bool) (hi low : BitVec 4) (data : Word) :
    txnIndex (unmappedWord4 we hi low data) / 4 = hi.toNat := by
  rw [txnIndex_unmappedWord4]
  exact toNat_append_div hi _

/-- A word of the range of eight words has its index in the range. -/
theorem txnIndex_unmappedWord5_div (we : Bool) (hi : BitVec 3) (low : BitVec 5) (data : Word) :
    txnIndex (unmappedWord5 we hi low data) / 8 = hi.toNat := by
  rw [txnIndex_unmappedWord5]
  exact toNat_append_div hi _

/-- The word indices of the rows that fix all of ADDR[7:2]: every one outside the four unmapped ranges (30_encoding.md
R117). -/
def OneWordRow (k : Nat) : Prop := k < 12 ∨ (16 ≤ k ∧ k < 28) ∨ (32 ≤ k ∧ k < 52)

/-- Every word index lies in one of the four unmapped ranges or belongs to rows of its own. -/
theorem wordIndex_cases {k : Nat} (hk : k < 64) :
    k / 4 = 3 ∨ k / 4 = 7 ∨ k / 4 = 13 ∨ k / 8 = 7 ∨ OneWordRow k := by
  unfold OneWordRow
  omega

/-- The four codes of OP (30_encoding.md R114). -/
theorem ctrlOp_cases : ∀ op : BitVec 2, op = 0 ∨ op = 1 ∨ op = 2 ∨ op = 3 := by decide

/-- A read outside the unmapped ranges has the word of its fields. -/
theorem encode_decodeRead {k : Nat} (hk : OneWordRow k) (w : Txn) :
    encode (decodeRead k w) = some (txnWord false (BitVec.ofNat 6 k) (txnLane w) (txnData w)) := by
  obtain h | ⟨h, h'⟩ | ⟨h, h'⟩ := hk <;> interval_cases k <;> rfl

/-- So has a write outside them and CTRL. -/
theorem encode_decodeWrite {k : Nat} (hk : OneWordRow k) (h0 : 0 < k) (w : Txn) :
    encode (decodeWrite k w) = some (txnWord true (BitVec.ofNat 6 k) (txnLane w) (txnData w)) := by
  obtain h | ⟨h, h'⟩ | ⟨h, h'⟩ := hk <;> interval_cases k <;> rfl

theorem encode_decodeCtrl (w : Txn) :
    encode (decodeCtrl w) = some (ctrlWord (txnOp w) (txnLane w) (txnRest w)) := by
  obtain h | h | h | h := ctrlOp_cases (txnOp w)
  all_goals rw [decodeCtrl, h]; rfl

end Sys2Proof.Machine
end

section
/-! PROOF. Internal operations outside their STATE, and at an index past their array (30_encoding.md R119; logs 7 and
5). -/

namespace Sys2Proof.Machine

section Outside
variable {s : State}

theorem exec_decode_outside (h : s.seqState ≠ .decode) : exec .decode s = .next s := if_neg h
theorem exec_txCmdByte_outside (h : s.seqState ≠ .txCmd) : exec .txCmdByte s = .next s := if_neg h
theorem exec_txQryByte_outside (h : s.seqState ≠ .txQry) : exec .txQryByte s = .next s := if_neg h
theorem exec_huntByte_outside (b : Byte) (h : s.seqState ≠ .hunt) : exec (.huntByte b) s = .next s :=
  if_neg fun hc => h hc.1
theorem exec_accByte_outside (b : Byte) (h : s.seqState ≠ .acc) : exec (.accByte b) s = .next s := if_neg h
theorem exec_timeoutTick_outside (h : ¬ (s.seqState = .hunt ∨ s.seqState = .acc)) :
    exec .timeoutTick s = .next s := if_neg h
theorem exec_settleTick_outside (h : s.seqState ≠ .settle) : exec .settleTick s = .next s := if_neg h

theorem exec_periodic_outside (h : s.seqState ≠ .idle ∨ s.refCnt.toNat < Config.kRefresh) :
    exec .periodic s = .next s := by
  have hn : ¬ (s.seqState = .idle ∧ s.refDue = true) := by
    rintro ⟨hq, hd⟩
    exact h.elim (absurd hq) (Nat.not_lt.2 (of_decide_eq_true hd))
  rw [exec_periodic, if_neg hn]

/-- CMD offers no byte past its last one. -/
theorem txOffer_txCmd_past (hq : s.seqState = .txCmd) (hi : Config.kCmdLen ≤ s.txIdx.toNat) : s.txOffer = none := by
  simp [State.txOffer, hq, hi]

/-- QUERY_FRAME offers no byte past its last one. -/
theorem txOffer_txQry_past (hq : s.seqState = .txQry) (hi : Config.kQryLen ≤ s.txIdx.toNat) : s.txOffer = none := by
  simp [State.txOffer, hq, hi]

/-- Where no byte is offered, sending faults. -/
theorem sendByte_none (len : Nat) (finish : State → State) (h : s.txOffer = none) :
    sendByte len finish s = .fault .txIndexBeyondFrame := by
  rw [sendByte, h]

theorem exec_txCmdByte_past (hq : s.seqState = .txCmd) (hi : Config.kCmdLen ≤ s.txIdx.toNat) :
    exec .txCmdByte s = .fault .txIndexBeyondFrame := by
  show execTxCmdByte s = _
  rw [execTxCmdByte, if_pos hq, sendByte_none _ _ (txOffer_txCmd_past hq hi)]

theorem exec_txQryByte_past (hq : s.seqState = .txQry) (hi : Config.kQryLen ≤ s.txIdx.toNat) :
    exec .txQryByte s = .fault .txIndexBeyondFrame := by
  show execTxQryByte s = _
  rw [execTxQryByte, if_pos hq, sendByte_none _ _ (txOffer_txQry_past hq hi)]

theorem exec_accByte_past (b : Byte) (hq : s.seqState = .acc) (hi : Config.kRxCap ≤ s.rxCnt.toNat) :
    exec (.accByte b) s = .fault .rxIndexBeyondBuffer := by
  show execAccByte b s = _
  rw [execAccByte, if_pos hq, storeByte, if_neg (Nat.not_lt.2 hi)]

end Outside

end Sys2Proof.Machine
end

section
/-! PROOF. The statements of 30_encoding.md. -/

namespace Sys2Proof.Machine

/-! ### Decoder and encoder (R115, R117) -/

/-- Settles O3: each unmapped range, the CTRL write by its OP, and every row of one word index. -/
theorem encodeOfDecode : Obligations.EncodeOfDecode := by
  intro w
  obtain h | h | h | h | h := wordIndex_cases (txnIndex_lt w)
  · rw [decodeTxn_30To3C h]
    cases hwe : txnWe w <;> exact congrArg some (hwe ▸ unmappedWord4_fields h)
  · rw [decodeTxn_70To7C h]
    cases hwe : txnWe w <;> exact congrArg some (hwe ▸ unmappedWord4_fields h)
  · rw [decodeTxn_D0ToDC h]
    cases hwe : txnWe w <;> exact congrArg some (hwe ▸ unmappedWord4_fields h)
  · rw [decodeTxn_E0ToFC h]
    cases hwe : txnWe w <;> exact congrArg some (hwe ▸ unmappedWord5_fields h)
  · cases hwe : txnWe w with
    | false =>
      have hread : ¬ txnWe w = true := ne_true_of_eq_false hwe
      rw [decodeTxn, if_neg hread, encode_decodeRead h, ← hwe, txnWord_fields]
    | true =>
      by_cases hk : txnIndex w = 0
      · rw [decodeTxn_ctrlWrite hwe hk, encode_decodeCtrl, ctrlWord_fields hwe hk]
      · rw [decodeTxn, if_pos hwe, encode_decodeWrite h (Nat.pos_of_ne_zero hk), ← hwe, txnWord_fields]

/-- Settles O2: the internal operations are not well-formed; then the rows of the CTRL write, of the unmapped ranges,
and all others, which have a word index of their own. -/
theorem decodeOfEncode : Obligations.DecodeOfEncode := by
  intro i hi
  cases i
  case startup | periodic | encode | xorfold | decode | txCmdByte | txQryByte | pollStart | huntByte | accByte
      | capacityStop | timeoutTick | settleTick => exact absurd hi Bool.false_ne_true
  case wrCtrlNop | wrCtrlApply | wrCtrlRefresh | wrCtrlBadop => exact ⟨_, rfl, decodeTxn_ctrlWord _ _ _⟩
  case rdUnmapped30To3C | wrUnmapped30To3C =>
    exact ⟨_, rfl, by rw [decodeTxn_30To3C (txnIndex_unmappedWord4_div ..)]; simp⟩
  case rdUnmapped70To7C | wrUnmapped70To7C =>
    exact ⟨_, rfl, by rw [decodeTxn_70To7C (txnIndex_unmappedWord4_div ..)]; simp⟩
  case rdUnmappedD0ToDC | wrUnmappedD0ToDC =>
    exact ⟨_, rfl, by rw [decodeTxn_D0ToDC (txnIndex_unmappedWord4_div ..)]; simp⟩
  case rdUnmappedE0ToFC | wrUnmappedE0ToFC =>
    exact ⟨_, rfl, by rw [decodeTxn_E0ToFC (txnIndex_unmappedWord5_div ..)]; simp⟩
  all_goals exact ⟨_, rfl, decodeTxn_txnWord (fun _ => rfl) _ _⟩

/-- Settles O1: each word is decoded by evaluation. -/
theorem writtenOutWordsDecode : Obligations.WrittenOutWordsDecode := by
  unfold Obligations.WrittenOutWordsDecode
  decide

/-! ### Internal operations (R119) -/

/-- Settles O41: each operation by its STATE, and the three array accesses by their index. -/
theorem internalTriggersAndIndexFaults : Obligations.InternalTriggersAndIndexFaults := by
  refine ⟨fun _ => exec_decode_outside, fun _ => exec_txCmdByte_outside, fun _ => exec_txQryByte_outside,
    fun _ => exec_huntByte_outside, fun _ => exec_accByte_outside, fun s hh ha => ?read,
    fun _ => exec_settleTick_outside, fun _ => exec_periodic_outside, fun _ => exec_accByte_past,
    fun _ => exec_txCmdByte_past, fun _ => exec_txQryByte_past⟩
  case read =>
    have hr : ¬ (s.seqState = .hunt ∨ s.seqState = .acc) := not_or.2 ⟨hh, ha⟩
    exact ⟨exec_capacityStop_outside hr, exec_timeoutTick_outside hr⟩

end Sys2Proof.Machine
end

section
/-! PROOF. The frame ENCODE writes, by bytes, by fields, and over an earlier encoding (40_encoder.md R140 to R150). -/

namespace Sys2Proof.Machine

/-! ### Bytes of the encoded frame (R140) -/

theorem exec_encode (s : State) : exec .encode s = .next s.encodeCmd := rfl

section Frame
variable (req : Word) (ds : DeviceState) (f : Vector Byte Config.kCmdLen)

/-- The encoded frame differs from its fields in the checksum byte alone. -/
theorem encodeFrame_byte {i : Nat} (hi : 34 ≠ i) :
    (encodeFrame req ds f)[i]?.getD 0 = (encodeFields req ds f)[i]?.getD 0 := by
  rw [encodeFrame_eq, withChecksum_byte, if_neg hi]

theorem encodeFrame_byte7 : (encodeFrame req ds f)[7]?.getD 0 = encodeByte7 (f[7]?.getD 0) req ds := by
  rw [encodeFrame_byte _ _ _ (by decide), encodeFields_byte]
  rfl

theorem encodeFrame_byte8 : (encodeFrame req ds f)[8]?.getD 0 = encodeByte8 (f[8]?.getD 0) req ds := by
  rw [encodeFrame_byte _ _ _ (by decide), encodeFields_byte]
  rfl

theorem encodeFrame_byte9 : (encodeFrame req ds f)[9]?.getD 0 = tempCode req ds := by
  rw [encodeFrame_byte _ _ _ (by decide), encodeFields_byte]
  rfl

theorem encodeFrame_byte10 : (encodeFrame req ds f)[10]?.getD 0 = speedCode (speedSel req ds) := by
  rw [encodeFrame_byte _ _ _ (by decide), encodeFields_byte]
  rfl

theorem encodeFrame_byte11 : (encodeFrame req ds f)[11]?.getD 0 = encodeByte11 (f[11]?.getD 0) req := by
  rw [encodeFrame_byte _ _ _ (by decide), encodeFields_byte]
  rfl

/-- The bytes the encoder does not write. -/
theorem encodeFrame_byte_kept {i : Nat} (hi : i ≤ 6 ∨ (12 ≤ i ∧ i ≤ 33)) :
    (encodeFrame req ds f)[i]?.getD 0 = f[i]?.getD 0 := by
  rw [encodeFrame_byte _ _ _ (by omega), encodeFields_byte, if_neg (by omega), if_neg (by omega), if_neg (by omega),
    if_neg (by omega), if_neg (by omega)]

end Frame

/-! ### The checksum byte (R148) -/

/-- Two frames that agree below the checksum byte have the same fold over the bytes it covers. -/
theorem xorFold_congr_byte {f g : Vector Byte Config.kCmdLen} (h : ∀ i < 34, f[i]?.getD 0 = g[i]?.getD 0) :
    xorFold f.toList 0 33 = xorFold g.toList 0 33 := by
  refine xorFold_congr fun i _ hi => ?_
  have hi35 : i < 35 := by omega
  have hb := h i (by omega)
  simp only [hi35, Vector.getElem?_eq_getElem, Option.getD_some] at hb
  simp [hi35, hb]

/-- The checksum does not cover itself. -/
theorem xorFold_withChecksum (f : Vector Byte Config.kCmdLen) :
    xorFold (withChecksum f).toList 0 33 = xorFold f.toList 0 33 :=
  xorFold_congr_byte fun i hi => by rw [withChecksum_byte, if_neg (by omega)]

/-- A frame with its checksum is given by the bytes before the checksum. -/
theorem withChecksum_congr {f g : Vector Byte Config.kCmdLen} (h : ∀ i < 34, f[i]?.getD 0 = g[i]?.getD 0) :
    withChecksum f = withChecksum g := by
  have hbyte : ∀ i < 35, (withChecksum f)[i]?.getD 0 = (withChecksum g)[i]?.getD 0 := by
    intro i hi
    rw [withChecksum_byte, withChecksum_byte, xorFold_congr_byte h]
    split_ifs with h34
    · rfl
    · exact h i (by omega)
  ext1 i hi
  simpa [hi] using hbyte i hi

/-! ### Bits of the bytes the encoder shares with the template (30_encoding.md R101, R102, R105) -/

/-- The byte of one bit, bit by bit. -/
theorem bitAt_getLsbD (b : Bool) {n k : Nat} (hk : k < 8) : (bitAt b n).getLsbD k = (b && decide (n = k)) := by
  cases b with
  | false => simp [bitAt]
  | true =>
    rw [bitAt, if_pos rfl, BitVec.getLsbD_shiftLeft, BitVec.getLsbD_one, Bool.eq_iff_iff]
    simp only [Bool.and_eq_true, Bool.not_eq_true', decide_eq_true_eq, decide_eq_false_iff_not,
      true_and]
    omega

theorem encodeByte7_power (old : Byte) (req : Word) (ds : DeviceState) :
    (encodeByte7 old req ds).getLsbD 2 = flagSel (reqPower req) ds.power := by
  rw [encodeByte7, BitVec.getLsbD_or, BitVec.getLsbD_or, bitAt_getLsbD _ (by decide), bitAt_getLsbD _ (by decide)]
  simp

theorem encodeByte7_eco (old : Byte) (req : Word) (ds : DeviceState) :
    (encodeByte7 old req ds).getLsbD 7 = flagSel (reqEco req) ds.eco := by
  rw [encodeByte7, BitVec.getLsbD_or, BitVec.getLsbD_or, bitAt_getLsbD _ (by decide), bitAt_getLsbD _ (by decide)]
  simp

/-- Every mode code is a nibble. -/
theorem modeCode_nibble (i : Nat) : modeCode i &&& 0x0F = modeCode i := by
  have hall : ∀ b ∈ Config.modeTable, b &&& 0x0F#8 = b := by simp [Config.modeTable]
  unfold modeCode
  cases hb : Config.modeTable[i - 1]? with
  | none => rfl
  | some b => exact hall b (List.mem_of_getElem? hb)

theorem encodeByte8_turbo (old : Byte) (req : Word) (ds : DeviceState) :
    (encodeByte8 old req ds).getLsbD 6 = flagSel (reqTurbo req) ds.turbo := by
  have hm : (modeCode (modeSel req ds)).getLsbD 6 = false := by
    rw [← modeCode_nibble]
    simp
  rw [encodeByte8, BitVec.getLsbD_or, BitVec.getLsbD_or, bitAt_getLsbD _ (by decide), hm]
  simp

theorem encodeByte8_mode (old : Byte) (req : Word) (ds : DeviceState) :
    encodeByte8 old req ds &&& 0x0F = modeCode (modeSel req ds) := by
  have h6 : ∀ b, bitAt b 6 &&& 0x0F = 0#8 := by decide
  have hold : (old &&& 0xB0) &&& 0x0F = 0#8 := by
    rw [BitVec.and_assoc]
    exact BitVec.and_zero
  rw [encodeByte8, BitVec.and_or_distrib_right, or_and_mask (h6 _), hold, BitVec.zero_or, modeCode_nibble]

theorem encodeByte11_half (old : Byte) (req : Word) :
    (encodeByte11 old req).getLsbD 1 = halfSel req (old.getLsbD 1) := by
  rw [encodeByte11, BitVec.getLsbD_or, bitAt_getLsbD _ (by decide)]
  simp

/-! ### The selections (R142 to R147) -/

theorem flagSel_eq (field : BitVec 2) (fallback : Bool) :
    flagSel field fallback = if field = 0 then false else if field = 1 then true else fallback := by
  unfold flagSel
  by_cases h0 : field = 0
  · rw [h0]
    rfl
  · by_cases h1 : field = 1
    · rw [h1]
      rfl
    · rw [if_neg (not_or.2 ⟨h0, h1⟩), if_neg h0, if_neg h1]

theorem inRangeT_iff (t : Nat) : inRangeT t = true ↔ 1500 < t ∧ t < 3200 := by
  rw [inRangeT, Bool.and_eq_true, decide_eq_true_iff, decide_eq_true_iff]
  exact Iff.rfl

theorem modeSel_bounds (req : Word) (ds : DeviceState) : 1 ≤ modeSel req ds ∧ modeSel req ds ≤ 5 := by
  unfold modeSel
  split_ifs with h
  · exact h
  · exact normMode_bounds _

theorem speedSel_le (req : Word) (ds : DeviceState) : speedSel req ds ≤ 5 := by
  unfold speedSel normSpeed
  split_ifs <;> omega

/-- The kept half-degree bit is kept by the same request again. -/
theorem halfSel_halfSel (req : Word) (old : Bool) : halfSel req (halfSel req old) = halfSel req old := by
  unfold halfSel
  split_ifs <;> rfl

/-- A temperature in range decides the half-degree bit by itself (R146). -/
theorem halfSel_inRange {req : Word} (h : inRangeT (reqTemp req).toNat = true) (old old' : Bool) :
    halfSel req old = halfSel req old' := by
  rw [halfSel, halfSel, if_pos h, if_pos h]

/-! ### Readback of the encoded frame (R150) -/

/-- The mode codes are distinct, so a mode is found again by its code. -/
theorem find_modeCode {m : Nat} (h1 : 1 ≤ m) (h5 : m ≤ 5) :
    ([1, 2, 3, 4, 5].find? fun i => decide (modeCode i = modeCode m)) = some m := by
  interval_cases m <;> decide

/-- So is a speed. -/
theorem find_speedCode {v : Nat} (h5 : v ≤ 5) :
    ([0, 1, 2, 3, 4, 5].find? fun i => decide (speedCode i = speedCode v)) = some v := by
  interval_cases v <;> decide

section Readback
variable (req : Word) (ds : DeviceState) (f : Vector Byte Config.kCmdLen)

theorem rbPower_encodeFrame : rbPower (encodeFrame req ds f) = flagSel (reqPower req) ds.power := by
  rw [rbPower, encodeFrame_byte7, encodeByte7_power]

theorem rbEco_encodeFrame : rbEco (encodeFrame req ds f) = flagSel (reqEco req) ds.eco := by
  rw [rbEco, encodeFrame_byte7, encodeByte7_eco]

theorem rbTurbo_encodeFrame : rbTurbo (encodeFrame req ds f) = flagSel (reqTurbo req) ds.turbo := by
  rw [rbTurbo, encodeFrame_byte8, encodeByte8_turbo]

theorem rbMode_encodeFrame : rbMode (encodeFrame req ds f) = some (modeSel req ds) := by
  obtain ⟨h1, h5⟩ := modeSel_bounds req ds
  rw [rbMode, encodeFrame_byte8, encodeByte8_mode]
  exact find_modeCode h1 h5

theorem rbSpeed_encodeFrame : rbSpeed (encodeFrame req ds f) = some (speedSel req ds) := by
  rw [rbSpeed, encodeFrame_byte10]
  exact find_speedCode (speedSel_le req ds)

theorem rbTint_encodeFrame : rbTint (encodeFrame req ds f) =
    if inRangeT (reqTemp req).toNat then BitVec.ofNat 8 ((reqTemp req).toNat / 100) else ds.setptInt := by
  rw [rbTint, encodeFrame_byte9, tempCode]
  split_ifs <;> exact sub_sub_cancel _ _

theorem rbHalf_encodeFrame : rbHalf (encodeFrame req ds f) = halfSel req (rbHalf f) := by
  rw [rbHalf, encodeFrame_byte11, encodeByte11_half, rbHalf]

end Readback

/-! ### Encoding over an encoded frame (R149) -/

/-- A byte the encoder shares with the template depends on the old byte by the template's bits alone. -/
theorem encodeByte7_encodeByte7 (old : Byte) (req req' : Word) (ds ds' : DeviceState) :
    encodeByte7 (encodeByte7 old req' ds') req ds = encodeByte7 old req ds := by
  rw [encodeByte7, encodeByte7_mask, ← encodeByte7]

theorem encodeByte8_encodeByte8 (old : Byte) (req req' : Word) (ds ds' : DeviceState) :
    encodeByte8 (encodeByte8 old req' ds') req ds = encodeByte8 old req ds := by
  rw [encodeByte8, encodeByte8_mask, ← encodeByte8]

/-- In byte 11 the half-degree bit may depend on the old one too. -/
theorem encodeByte11_encodeByte11 {old : Byte} {req req' : Word}
    (h : halfSel req (halfSel req' (old.getLsbD 1)) = halfSel req (old.getLsbD 1)) :
    encodeByte11 (encodeByte11 old req') req = encodeByte11 old req := by
  rw [encodeByte11, encodeByte11_mask, encodeByte11_half, h, ← encodeByte11]

/-- Only the half-degree bit can carry an earlier encoding over into the next one. -/
theorem encodeFrame_encodeFrame {req req' : Word} (ds ds' : DeviceState) {f : Vector Byte Config.kCmdLen}
    (h : halfSel req (halfSel req' (rbHalf f)) = halfSel req (rbHalf f)) :
    encodeFrame req ds (encodeFrame req' ds' f) = encodeFrame req ds f := by
  rw [encodeFrame_eq, encodeFrame_eq req ds f]
  refine withChecksum_congr fun i hi => ?_
  rw [encodeFields_byte, encodeFields_byte, encodeFrame_byte7, encodeFrame_byte8, encodeFrame_byte11,
    encodeByte7_encodeByte7, encodeByte8_encodeByte8, encodeByte11_encodeByte11 h]
  split_ifs
  case neg => exact encodeFrame_byte_kept _ _ _ (by omega)
  all_goals rfl

end Sys2Proof.Machine
end

section
/-! PROOF. The statements of 40_encoder.md. -/

namespace Sys2Proof.Machine

/-- Settles O24, byte by byte; the checksum covers none of the bytes it replaces. -/
theorem encodeWritesFrame : Obligations.EncodeWritesFrame := by
  intro s
  refine ⟨s.encodeCmd, exec_encode s, rfl, ?_, ?_, ?_, ?_, ?_, ?_, fun i hi => ?_⟩
  · exact encodeFrame_byte7 _ _ _
  · exact encodeFrame_byte8 _ _ _
  · exact encodeFrame_byte9 _ _ _
  · exact encodeFrame_byte10 _ _ _
  · exact encodeFrame_byte11 _ _ _
  · rw [encodeCmd_checksum, State.encodeCmd_cmd, encodeFrame_eq, xorFold_withChecksum]
  · exact encodeFrame_byte_kept _ _ _ hi

/-- Settles O25: each readback is its selection, and each selection is the rule's. -/
theorem encodeFieldRules : Obligations.EncodeFieldRules := by
  intro s
  refine ⟨s.encodeCmd, exec_encode s, rfl, ?power, ?eco, ?turbo, ?mode, ?speed, ?temp⟩
  case power => exact (rbPower_encodeFrame _ _ _).trans (flagSel_eq _ _)
  case eco => exact (rbEco_encodeFrame _ _ _).trans (flagSel_eq _ _)
  case turbo => exact (rbTurbo_encodeFrame _ _ _).trans (flagSel_eq _ _)
  case mode =>
    rw [State.cmdByte, State.encodeCmd_cmd, encodeFrame_byte8, encodeByte8_mode]
    rfl
  case speed => exact encodeFrame_byte10 _ _ _
  case temp =>
    have h9 : s.encodeCmd.cmdByte 9 = tempCode s.req s.ds := encodeFrame_byte9 _ _ _
    have hhalf : rbHalf s.encodeCmd.cmd = halfSel s.req ((s.cmdByte 11).getLsbD 1) := rbHalf_encodeFrame _ _ _
    rw [h9, hhalf, tempCode, halfSel]
    simp only [inRangeT_iff]
    split_ifs with h
    · exact ⟨rfl, rfl⟩
    · exact ⟨rfl, rfl⟩

/-- Settles O26: in 0x3F700000 every field takes its fallback, and a legal index is its own fallback. -/
theorem fallbackProperty : Obligations.FallbackProperty := by
  intro s hreq hmode hspeed
  have hm : modeSel 0x3F700000 s.ds = s.ds.mode.toNat := if_pos hmode
  have hv : speedSel 0x3F700000 s.ds = s.ds.speed.toNat := if_pos hspeed
  refine ⟨s.encodeCmd, exec_encode s, ?_⟩
  rw [State.encodeCmd_cmd, hreq, rbPower_encodeFrame, rbEco_encodeFrame, rbTurbo_encodeFrame, rbMode_encodeFrame,
    rbSpeed_encodeFrame, rbTint_encodeFrame, rbHalf_encodeFrame, hm, hv]
  exact ⟨rfl, rfl, rfl, rfl, rfl, rfl, rfl⟩

/-- Settles O27: the half-degree bit carries nothing over, the same request keeping it and a temperature in range
deciding it. -/
theorem repeatedApplyAgrees : Obligations.RepeatedApplyAgrees := by
  intro req req' ds ds' f
  refine ⟨encodeFrame_encodeFrame ds ds (halfSel_halfSel req _), fun hlo hhi => ?_⟩
  exact encodeFrame_encodeFrame ds ds' (halfSel_inRange ((inRangeT_iff _).2 ⟨hlo, hhi⟩) _ _)

end Sys2Proof.Machine
end

section
/-! PROOF. The checksum's fold byte by byte, and the checksum of CMD over a cycle (41_checksum.md R170 to R173). -/

namespace Sys2Proof.Machine

/-! ### The range of the fold (R170) -/

/-- An empty range folds to 0x00. -/
theorem xorFold_empty (l : List Byte) {a b : Nat} (h : b < a) : xorFold l a b = 0 := by
  have hn : b + 1 - a = 0 := by omega
  rw [xorFold, hn]
  rfl

/-- Each further byte is XORed in. -/
theorem xorFold_succ {l : List Byte} {a b : Nat} {x : Byte} (hab : a ≤ b) (h : l[b + 1]? = some x) :
    xorFold l a (b + 1) = xorFold l a b ^^^ x := by
  rw [xorFold_split l hab (Nat.le_succ b), xorFold_self h]

/-- The fold over a whole buffer. -/
theorem xorFold_all (l : List Byte) : xorFold l 0 (l.length - 1) = l.foldl (· ^^^ ·) 0 := by
  rw [xorFold, List.drop_zero, List.take_of_length_le (by omega)]

/-- The order of the bytes does not matter. -/
theorem xorFold_perm {l l' : List Byte} (h : l.Perm l') :
    xorFold l 0 (l.length - 1) = xorFold l' 0 (l'.length - 1) := by
  rw [xorFold_all, xorFold_all]
  refine h.foldl_eq' (fun x _ y _ z => ?_) 0
  ac_rfl

/-! ### Changed bytes (R172) -/

/-- The first byte taken out of a fold. -/
theorem foldl_xor_cons (x : Byte) (l : List Byte) :
    (x :: l).foldl (· ^^^ ·) 0 = x ^^^ l.foldl (· ^^^ ·) 0 := by
  rw [List.foldl_cons, foldl_xor, show (0 : Byte) ^^^ x = x from BitVec.zero_xor]

/-- A changed byte changes the fold by the difference of the byte. -/
theorem foldl_xor_set {l : List Byte} {i : Nat} {old : Byte} (h : l[i]? = some old) (v : Byte) :
    (l.set i v).foldl (· ^^^ ·) 0 = l.foldl (· ^^^ ·) 0 ^^^ (old ^^^ v) := by
  induction l generalizing i with
  | nil => simp at h
  | cons x xs ih =>
    cases i with
    | zero =>
      obtain rfl : x = old := by simpa using h
      rw [List.set_cons_zero, foldl_xor_cons, foldl_xor_cons]
      generalize xs.foldl (· ^^^ ·) (0 : Byte) = r
      calc v ^^^ r = (x ^^^ x) ^^^ (v ^^^ r) := by rw [BitVec.xor_self, BitVec.zero_xor]
        _ = x ^^^ r ^^^ (x ^^^ v) := by ac_rfl
    | succ i => rw [List.set_cons_succ, foldl_xor_cons, foldl_xor_cons, ih (by simpa using h), BitVec.xor_assoc]

theorem xorFold_set {l : List Byte} {a b i : Nat} {old : Byte} (h : l[i]? = some old) (ha : a ≤ i) (hb : i ≤ b)
    (v : Byte) : xorFold (l.set i v) a b = xorFold l a b ^^^ (old ^^^ v) := by
  have hi : ((l.drop a).take (b + 1 - a))[i - a]? = some old := by
    rw [List.getElem?_take_of_lt (by omega), List.getElem?_drop, Nat.add_sub_of_le ha, h]
  rw [xorFold, xorFold, List.drop_set, if_neg (by omega), List.take_set, foldl_xor_set hi]

/-- A changed byte in the range changes the fold. -/
theorem xorFold_set_ne {l : List Byte} {a b i : Nat} {old v : Byte} (h : l[i]? = some old) (ha : a ≤ i) (hb : i ≤ b)
    (hv : v ≠ old) : xorFold (l.set i v) a b ≠ xorFold l a b := by
  rw [xorFold_set h ha hb]
  intro he
  have hx : old ^^^ v = 0 := by simpa using he
  exact hv (BitVec.xor_eq_zero_iff.1 hx).symm

/-- The same change in two different bytes of the range cancels. -/
theorem xorFold_set_set {l : List Byte} {a b i j : Nat} {x y : Byte} (hx : l[i]? = some x) (hy : l[j]? = some y)
    (hi : a ≤ i ∧ i ≤ b) (hj : a ≤ j ∧ j ≤ b) (hij : i ≠ j) (m : Byte) :
    xorFold ((l.set i (x ^^^ m)).set j (y ^^^ m)) a b = xorFold l a b := by
  have hy' : (l.set i (x ^^^ m))[j]? = some y := by rw [List.getElem?_set_ne hij, hy]
  have hm (z : Byte) : z ^^^ (z ^^^ m) = m := by rw [← BitVec.xor_assoc, BitVec.xor_self, BitVec.zero_xor]
  rw [xorFold_set hy' hj.1 hj.2, xorFold_set hx hi.1 hi.2, hm, hm, BitVec.xor_assoc, BitVec.xor_self,
    BitVec.xor_zero]

/-! ### The checksum of CMD (R171 to R173) -/

/-- CMD as a list, byte by byte. -/
theorem cmd_toList_getElem? (s : State) {i : Nat} (hi : i < 35) : s.cmd.toList[i]? = some (s.cmdByte i) := by
  rw [State.cmdByte, Vector.getElem?_toList]
  simp [hi]

/-- A frame with its checksum folds to 0x00, the checksum included. -/
theorem checksumOk.xorFold_whole {s : State} (h : checksumOk s) : xorFold s.cmd.toList 0 34 = 0 := by
  rw [xorFold_succ (Nat.zero_le 33) (cmd_toList_getElem? s (by decide)), h]
  exact BitVec.xor_self

/-- The checksum predicate reads CMD alone. -/
theorem checksumOk.of_cmd_eq {s t : State} (h : t.cmd = s.cmd) (hc : checksumOk s) : checksumOk t := by
  unfold checksumOk State.cmdByte
  rw [h]
  exact hc

/-- ENCODE leaves the frame with its checksum, whatever the frame held before (40_encoder.md R148). -/
theorem checksumOk_encodeCmd (s : State) : checksumOk s.encodeCmd := by
  rw [checksumOk, encodeCmd_checksum, State.encodeCmd_cmd, encodeFrame_eq, xorFold_withChecksum]

/-- A cycle without reset leaves CMD with its checksum if an APPLY is accepted in it, or if CMD had it before. -/
theorem checksumOk_stepRule {s : State} {p : Inputs} (hr : p.rst = false)
    (hc : applyNow s p = false → checksumOk s) : checksumOk (stepRule s p) := by
  have hcmd := stepRule_cmd s hr
  cases ha : applyNow s p with
  | true => exact (checksumOk_encodeCmd s).of_cmd_eq (by simpa [ha] using hcmd)
  | false => exact (hc ha).of_cmd_eq (by simpa [ha] using hcmd)

/-- A reset cycle ends in TX_QRY, not in TX_CMD (10_state.md R66). -/
theorem seqState_stepRule_rst {s : State} {p : Inputs} (hr : p.rst = true) : (stepRule s p).seqState = .txQry := by
  rw [stepRule, if_pos hr]
  rfl

end Sys2Proof.Machine
end

section
/-! PROOF. The statements of 41_checksum.md. -/

namespace Sys2Proof.Machine

/-- Settles O54: TX_CMD is entered by an accepted APPLY alone, which encodes, and no cycle in TX_CMD changes CMD. -/
theorem transmittedFrameHasChecksum : Obligations.TransmittedFrameHasChecksum := by
  intro s t hi hc hs ht
  rw [step_eq_stepRule hi] at hs
  obtain rfl : stepRule s s.ports = t := by simpa using hs
  cases hr : s.ports.rst with
  | true =>
    rw [seqState_stepRule_rst hr] at ht
    cases ht
  | false =>
    refine checksumOk_stepRule hr fun ha => hc ?_
    by_contra hq
    simp [(applyNow_iff s hr).2 ⟨hq, ht⟩] at ha

/-- Settles O28: the fold over a range by its length, and over a whole buffer in any order. -/
theorem xorFoldMeaning : Obligations.XorFoldMeaning := by
  refine ⟨?empty, ?single, ?further, ?order, ?value⟩
  case empty => exact fun l _ _ h => xorFold_empty l h
  case single => exact fun _ _ h => xorFold_self (List.getElem?_eq_getElem h)
  case further => exact fun _ _ _ h hab => xorFold_succ hab (List.getElem?_eq_getElem h)
  case order => exact fun _ _ h => xorFold_perm h
  case value => decide

/-- Settles O30: a changed byte shows in the fold as its XOR with the old value, so one change shows and two equal
ones cancel. -/
theorem checksumProperty : Obligations.ChecksumProperty := by
  refine ⟨fun s => ?encoded, fun s hi hr _ hc => ?later⟩
  case encoded =>
    have hok := checksumOk_encodeCmd s
    have hbyte {i : Nat} (hi : i ≤ 33) := cmd_toList_getElem? s.encodeCmd (i := i) (by omega)
    refine ⟨s.encodeCmd, exec_encode s, hok, hok.xorFold_whole, fun i v hi hv => ?_, fun i j m hi hj hij => ?_⟩
    · exact hok ▸ xorFold_set_ne (hbyte hi) (Nat.zero_le i) hi hv
    · exact (xorFold_set_set (hbyte hi) (hbyte hj) ⟨Nat.zero_le i, hi⟩ ⟨Nat.zero_le j, hj⟩ hij m).trans hok
  case later =>
    have hnext : checksumOk (stepRule s s.ports) := checksumOk_stepRule hr fun _ => hc
    exact ⟨_, step_eq_stepRule hi, hnext, hnext.xorFold_whole⟩

/-- Settles O29: the generator's position and range, K_CSUM_POS and K_CSUM_LAST, are 34 and 33. -/
theorem checksumGenerator : Obligations.ChecksumGenerator := fun _ => rfl

end Sys2Proof.Machine
end

section
/-! PROOF. The status decoder: when RXBUF is a reply, what DECODE then writes, each field it decodes, and the frame of
a round trip (42_decoder.md R181 to R189, R194). -/

namespace Sys2Proof.Machine

/-! ### Validity (R181, R182) -/

theorem replyValid_iff (s : State) : s.replyValid = true ↔ s.rxByte 0 = 0xBB ∧ s.rxByte 1 = 0x01 := by
  rw [State.replyValid, Bool.and_eq_true, beq_iff_eq, beq_iff_eq]
  exact Iff.rfl

theorem replyValid_eq_false_iff (s : State) :
    s.replyValid = false ↔ ¬ (s.rxByte 0 = 0xBB ∧ s.rxByte 1 = 0x01) := by
  rw [← replyValid_iff, Bool.not_eq_true]

/-- DECODE on a reply commits the decoded registers, with UPDATED and DONE. -/
theorem exec_decode_reply {s : State} (hq : s.seqState = .decode) (hv : s.replyValid = true) :
    exec .decode s = .next { s with
      ds := s.decodedDs, tLastPoll := s.now, lastValid := true, evt := s.evt ||| 0b000011, seqState := .idle } := by
  simp only [exec_decode hq, hv, if_true, BitVec.or_assoc]
  rfl

/-- DECODE on anything else keeps DS and T_LAST_POLL, with NOTREPLY and DONE. -/
theorem exec_decode_notReply {s : State} (hq : s.seqState = .decode) (hv : s.replyValid = false) :
    exec .decode s = .next { s with lastValid := false, evt := s.evt ||| 0b000101, seqState := .idle } := by
  simp only [exec_decode hq, hv, Bool.false_eq_true, if_false, BitVec.or_assoc]
  rfl

/-- A DECODE cycle on anything but a reply raises DONE and NOTREPLY, beside the host's own events. -/
theorem eventsNow_notReply {s : State} {p : Inputs} (hq : s.seqState = .decode) (hv : s.replyValid = false) :
    eventsNow s p = hostEvents s p ||| 0b000101 := by
  simp [eventsNow_eq, hq, hv, timeoutNow, eventBit, eventCode]

/-! ### The decoded fields (R183 to R189) -/

/-- The low nibble of a byte as a number. -/
theorem toNat_extract_nibble (b : Byte) : (b.extractLsb' 0 4).toNat = b.toNat % 16 := by
  simp

/-- A table is searched from its first entry on. -/
theorem lookup_cons_eq_ite {α β : Type} [DecidableEq α] (a k : α) (b : β) (es : List (α × β)) :
    ((k, b) :: es).lookup a = if a = k then some b else es.lookup a := by
  by_cases h : a = k
  · rw [if_pos h, h, List.lookup_cons_self]
  · rw [if_neg h, List.lookup_cons, beq_eq_false_iff_ne.2 h]

/-- FAN_REV as a chain of comparisons (R188). -/
theorem fanRev_eq (x : Byte) : fanRev x =
    if x = 0x80 then some 0 else if x = 0x90 then some 1 else if x = 0xC0 then some 2
    else if x = 0xA0 then some 3 else if x = 0xD0 then some 4 else if x = 0xB0 then some 5 else none := by
  simp only [fanRev, Config.fanRevTable, lookup_cons_eq_ite, List.lookup_nil]

section Fields
variable (s : State)

@[simp] theorem decodedDs_power : s.decodedDs.power = (s.rxByte 7).getLsbD 4 := rfl
@[simp] theorem decodedDs_eco : s.decodedDs.eco = (s.rxByte 7).getLsbD 6 := rfl
@[simp] theorem decodedDs_turbo : s.decodedDs.turbo = (s.rxByte 7).getLsbD 7 := rfl
@[simp] theorem decodedDs_setptHalf : s.decodedDs.setptHalf = (s.rxByte 9).getLsbD 1 := rfl
@[simp] theorem decodedDs_rawRoom : s.decodedDs.rawRoom = s.rxByte 17 := rfl
@[simp] theorem decodedDs_rawPipe : s.decodedDs.rawPipe = s.rxByte 30 := rfl
@[simp] theorem decodedDs_rawOut : s.decodedDs.rawOut = s.rxByte 36 := rfl
@[simp] theorem decodedDs_rawOutpipe : s.decodedDs.rawOutpipe = s.rxByte 37 := rfl

/-- A nibble outside 1 to 5 reads as mode 5 (R186). -/
theorem decodedDs_mode : s.decodedDs.mode =
    if 1 ≤ (s.rxByte 7).toNat % 16 ∧ (s.rxByte 7).toNat % 16 ≤ 5 then BitVec.ofNat 3 ((s.rxByte 7).toNat % 16)
    else 5 := by
  show BitVec.ofNat 3 (normMode ((s.rxByte 7).extractLsb' 0 4).toNat) = _
  rw [toNat_extract_nibble, normMode, apply_ite (BitVec.ofNat 3)]
  rfl

/-- An unmatched fan code keeps DS_SPEED (R188). -/
theorem decodedDs_speed : s.decodedDs.speed =
    if s.rxByte 8 &&& 0xF0 = 0x80 then 0 else if s.rxByte 8 &&& 0xF0 = 0x90 then 1
    else if s.rxByte 8 &&& 0xF0 = 0xC0 then 2 else if s.rxByte 8 &&& 0xF0 = 0xA0 then 3
    else if s.rxByte 8 &&& 0xF0 = 0xD0 then 4 else if s.rxByte 8 &&& 0xF0 = 0xB0 then 5 else s.ds.speed := by
  show (fanRev (s.rxByte 8 &&& 0xF0)).getD s.ds.speed = _
  simp only [fanRev_eq, apply_ite (Option.getD · s.ds.speed), Option.getD_some, Option.getD_none]

/-- The set-point is the low nibble above K_SET_OFS (R187). -/
theorem decodedDs_setptInt : s.decodedDs.setptInt = BitVec.ofNat 8 ((s.rxByte 8).toNat % 16 + 16) := by
  show ((s.rxByte 8).extractLsb' 0 4).setWidth 8 + BitVec.ofNat 8 16 = _
  rw [← BitVec.ofNat_toNat, toNat_extract_nibble, BitVec.ofNat_add]

end Fields

/-- In DECODE every byte from RX_CNT on is still the zero of the poll start (10_state.md R65). -/
theorem Inv.rxByte_missing {s : State} (hv : Inv s) (hq : s.seqState = .decode) {i : Nat} (hi : i < Config.kRxCap)
    (hn : s.rxCnt.toNat ≤ i) : s.rxByte i = 0 :=
  hv.zeroBeyond (.inr hq) i hi hn

/-! ### The synthetic status frame of a request (R194) -/

/-- Byte 7 of the status frame with these flags and mode. -/
def statusByte7 (p e u : Bool) (m : BitVec 4) : Byte := bitAt u 7 ||| bitAt e 6 ||| bitAt p 4 ||| m.setWidth 8

/-- The fan code a status frame reports for speed `v`. -/
def statusFanCode (v : BitVec 3) : Byte := ([0x80, 0x90, 0xC0, 0xA0, 0xD0, 0xB0] : List Byte).getD v.toNat 0

/-- Byte 8 of the status frame with speed `v` and set-point nibble `n`. -/
def statusByte8 (v : BitVec 3) (n : Nat) : Byte := statusFanCode v ||| BitVec.ofNat 8 n

section StatusByte7
variable (p e u : Bool) (m : BitVec 4)

theorem statusByte7_bit {k : Nat} (hk : k < 8) : (statusByte7 p e u m).getLsbD k =
    ((u && decide (7 = k)) || (e && decide (6 = k)) || (p && decide (4 = k)) || m.getLsbD k) := by
  rw [statusByte7, BitVec.getLsbD_or, BitVec.getLsbD_or, BitVec.getLsbD_or, bitAt_getLsbD _ hk, bitAt_getLsbD _ hk,
    bitAt_getLsbD _ hk, BitVec.getLsbD_setWidth, decide_eq_true hk, Bool.true_and]

theorem statusByte7_power : (statusByte7 p e u m).getLsbD 4 = p := by
  rw [statusByte7_bit _ _ _ _ (by decide)]
  simp

theorem statusByte7_eco : (statusByte7 p e u m).getLsbD 6 = e := by
  rw [statusByte7_bit _ _ _ _ (by decide)]
  simp

theorem statusByte7_turbo : (statusByte7 p e u m).getLsbD 7 = u := by
  rw [statusByte7_bit _ _ _ _ (by decide)]
  simp

theorem statusByte7_mode : (statusByte7 p e u m).toNat % 16 = m.toNat := by
  have h7 : ∀ b, (bitAt b 7).extractLsb' 0 4 = 0#4 := by decide
  have h6 : ∀ b, (bitAt b 6).extractLsb' 0 4 = 0#4 := by decide
  have h4 : ∀ b, (bitAt b 4).extractLsb' 0 4 = 0#4 := by decide
  have hm : (statusByte7 p e u m).extractLsb' 0 4 = m := by
    rw [statusByte7, BitVec.extractLsb'_or, BitVec.extractLsb'_or, BitVec.extractLsb'_or, h7, h6, h4,
      BitVec.extractLsb'_setWidth_of_le (by decide)]
    simp
  rw [← toNat_extract_nibble, hm]

end StatusByte7

/-- The fan code of a legal speed leaves the low nibble free and is found in FAN_REV. -/
theorem statusFanCode_legal : ∀ v : BitVec 3, v.toNat ≤ 5 →
    (statusFanCode v).extractLsb' 0 4 = 0#4 ∧ fanRev (statusFanCode v &&& 0xF0) = some v := by
  decide

theorem statusByte8_speed {v : BitVec 3} (hv : v.toNat ≤ 5) {n : Nat} (hn : n < 16) :
    fanRev (statusByte8 v n &&& 0xF0) = some v := by
  have hlow : ∀ k < 16, BitVec.ofNat 8 k &&& (0xF0 : Byte) = 0#8 := by decide
  rw [statusByte8, or_and_mask (hlow n hn)]
  exact (statusFanCode_legal v hv).2

theorem statusByte8_setpt {v : BitVec 3} (hv : v.toNat ≤ 5) {n : Nat} (hn : n < 16) :
    (statusByte8 v n).toNat % 16 = n := by
  rw [← toNat_extract_nibble, statusByte8, BitVec.extractLsb'_or, (statusFanCode_legal v hv).1, BitVec.zero_or,
    toNat_extract_nibble, BitVec.toNat_ofNat]
  omega

/-- DECODE of a status frame gives back the values it was made of, the set-point `n` in whole degrees. -/
theorem decodedDs_statusFrame {s : State} {p e u : Bool} {m : BitVec 4} {v : BitVec 3} {n : Nat} {half : Bool}
    (hm : 1 ≤ m.toNat ∧ m.toNat ≤ 5) (hv : v.toNat ≤ 5) (hlo : 16 ≤ n) (hhi : n < 32)
    (h7 : s.rxByte 7 = statusByte7 p e u m) (h8 : s.rxByte 8 = statusByte8 v (n - 16))
    (h9 : s.rxByte 9 = bitAt half 1) :
    s.decodedDs =
      { power := p, eco := e, turbo := u, mode := BitVec.ofNat 3 m.toNat, speed := v
        setptInt := BitVec.ofNat 8 n, setptHalf := half, rawRoom := s.rxByte 17, rawPipe := s.rxByte 30
        rawOut := s.rxByte 36, rawOutpipe := s.rxByte 37 } := by
  have hn : n - 16 < 16 := by omega
  have hpower : s.decodedDs.power = p := by rw [decodedDs_power, h7, statusByte7_power]
  have heco : s.decodedDs.eco = e := by rw [decodedDs_eco, h7, statusByte7_eco]
  have hturbo : s.decodedDs.turbo = u := by rw [decodedDs_turbo, h7, statusByte7_turbo]
  have hmode : s.decodedDs.mode = BitVec.ofNat 3 m.toNat := by
    rw [decodedDs_mode, h7, statusByte7_mode, if_pos hm]
  have hspeed : s.decodedDs.speed = v := by
    show (fanRev (s.rxByte 8 &&& 0xF0)).getD s.ds.speed = v
    rw [h8, statusByte8_speed hv hn, Option.getD_some]
  have hsetpt : s.decodedDs.setptInt = BitVec.ofNat 8 n := by
    rw [decodedDs_setptInt, h8, statusByte8_setpt hv hn, Nat.sub_add_cancel hlo]
  have hhalf : s.decodedDs.setptHalf = half := by
    rw [decodedDs_setptHalf, h9, bitAt_getLsbD _ (by decide), decide_eq_true rfl, Bool.and_true]
  exact (DeviceState.mk.injEq ..).mpr
    ⟨hpower, heco, hturbo, hmode, hspeed, hsetpt, hhalf, rfl, rfl, rfl, rfl⟩

/-! ### The request from its fields (30_encoding.md R113) -/

section PackReq
variable (temp : BitVec 16) (m : BitVec 4) (v : BitVec 3) (p e u : BitVec 2)

@[simp] theorem reqTemp_packReq : reqTemp (packReq temp m v p e u) = temp := by
  simp [reqTemp, packReq, BitVec.extractLsb'_or, fieldAt_extract, fieldAt_extract_outside]
@[simp] theorem reqMode_packReq : reqMode (packReq temp m v p e u) = m := by
  simp [reqMode, packReq, BitVec.extractLsb'_or, fieldAt_extract, fieldAt_extract_outside]
@[simp] theorem reqSpeed_packReq : reqSpeed (packReq temp m v p e u) = v := by
  simp [reqSpeed, packReq, BitVec.extractLsb'_or, fieldAt_extract, fieldAt_extract_outside]
@[simp] theorem reqPower_packReq : reqPower (packReq temp m v p e u) = p := by
  simp [reqPower, packReq, BitVec.extractLsb'_or, fieldAt_extract, fieldAt_extract_outside]
@[simp] theorem reqEco_packReq : reqEco (packReq temp m v p e u) = e := by
  simp [reqEco, packReq, BitVec.extractLsb'_or, fieldAt_extract, fieldAt_extract_outside]
@[simp] theorem reqTurbo_packReq : reqTurbo (packReq temp m v p e u) = u := by
  simp [reqTurbo, packReq, BitVec.extractLsb'_or, fieldAt_extract, fieldAt_extract_outside]

end PackReq

/-- A flag field that holds a bit requests that bit. -/
theorem flagSel_ofBool (b fallback : Bool) : flagSel ((BitVec.ofBool b).setWidth 2) fallback = b := by
  cases b <;> rfl

end Sys2Proof.Machine
end

section
/-! PROOF. The statements of 42_decoder.md. -/

namespace Sys2Proof.Machine

/-- Settles O31: the two outcomes of DECODE; on a reply the mode, the speed and the set-point are spelled out. -/
theorem decodeValidReply : Obligations.DecodeValidReply := by
  refine ⟨fun s hq h0 h1 => ?reply, fun s hq hn => ?notReply⟩
  case reply =>
    rw [exec_decode_reply hq ((replyValid_iff s).2 ⟨h0, h1⟩), ← decodedDs_mode, ← decodedDs_speed,
      ← decodedDs_setptInt]
    rfl
  case notReply => exact exec_decode_notReply hq ((replyValid_eq_false_iff s).2 hn)

/-- Settles O32: the cycle is R254's STEP, whose conditions for the kept registers all fail in DECODE without a
reply. -/
theorem decodeNotAReply : Obligations.DecodeNotAReply := by
  intro s hq hn hr
  have hv := (replyValid_eq_false_iff s).2 hn
  have hbusy : s.seqState ≠ .idle := by simp [hq]
  have hevt : (stepRule s s.ports).evt = (s.evt &&& ~~~hostClears s.ports) ||| (hostEvents s s.ports ||| 0b000101) := by
    rw [stepRule_evt s hr, eventsNow_notReply hq hv]
  refine ⟨stepRule s s.ports, clockEdge_decode hr hq, ?ds, ?tLastPoll, ?cmd, ?rxbuf, fun hw => ?req, ?seqState,
    ?lastValid, ?notReply, fun hop => ?evt⟩
  case ds => simp [stepRule_ds s hr, hv]
  case tLastPoll => simp [stepRule_tLastPoll s hr, hv]
  case cmd => simp [stepRule_cmd s hr, hbusy]
  case rxbuf => simp [stepRule_rxbuf s hr, pollStartNow, hq]
  case req => rw [stepRule_req s hr, if_neg hw]
  case seqState => rw [stepRule_seqState s hr, transitionTable_decode hq]
  case lastValid => rw [stepRule_lastValid s hr, if_pos hq, hv]
  case notReply => simp [hevt]
  case evt => simp [hevt, hostEvents_of_nop hop]

/-- Settles O33: a missing byte is zero, and a zero byte decodes to the values of R195. -/
theorem partialFrameDecodesZeros : Obligations.PartialFrameDecodesZeros := by
  intro s hv hq h0 h1 _ hlt
  refine ⟨_, exec_decode_reply hq ((replyValid_iff s).2 ⟨h0, h1⟩), fun hn => ?byte7, fun hn => ?byte8, fun hn => ?byte9,
    fun hn => hv.rxByte_missing hq (i := 17) (by decide) hn, fun hn => hv.rxByte_missing hq (i := 30) (by decide) hn,
    fun hn => hv.rxByte_missing hq (i := 36) (by decide) hn, hv.rxByte_missing hq (i := 37) (by decide) (by omega)⟩
  case byte7 => simp [decodedDs_mode, hv.rxByte_missing hq (by decide) hn]
  case byte8 => simp [decodedDs_setptInt, decodedDs_speed, hv.rxByte_missing hq (by decide) hn]
  case byte9 => simp [hv.rxByte_missing hq (by decide) hn]

/-- Settles O34: DECODE gives the values of the status frame, each readback of the command frame is the encoder's
selection, and a full request selects its own values. -/
theorem roundTrip : Obligations.RoundTrip := by
  intro s p e u m v temp ds f hm hv ht ht16 hq h0 h1 h7 h8 h9
  have hin : inRangeT temp.toNat = true := (inRangeT_iff _).2 ht
  have hexec := exec_decode_reply hq ((replyValid_iff s).2 ⟨h0, h1⟩)
  rw [decodedDs_statusFrame hm hv ht16 (by omega) h7 h8 h9] at hexec
  refine ⟨_, hexec, rfl, rfl, rfl, ?mode, rfl, ?setpt, rfl, rfl, _, rfl, ?rbPower, ?rbEco, ?rbTurbo, ?rbMode, ?rbSpeed,
    ?rbTint, ?rbHalf⟩
  case mode => exact (BitVec.toNat_ofNat _ _).trans (Nat.mod_eq_of_lt (by omega))
  case setpt => exact (BitVec.toNat_ofNat _ _).trans (Nat.mod_eq_of_lt (by omega))
  case rbPower => rw [rbPower_encodeFrame, reqPower_packReq, flagSel_ofBool]
  case rbEco => rw [rbEco_encodeFrame, reqEco_packReq, flagSel_ofBool]
  case rbTurbo => rw [rbTurbo_encodeFrame, reqTurbo_packReq, flagSel_ofBool]
  case rbMode => rw [rbMode_encodeFrame, modeSel, reqMode_packReq, if_pos hm]
  case rbSpeed => rw [rbSpeed_encodeFrame, speedSel, reqSpeed_packReq, if_pos hv]
  case rbTint => rw [rbTint_encodeFrame, reqTemp_packReq, if_pos hin]
  case rbHalf => rw [rbHalf_encodeFrame, halfSel, reqTemp_packReq, if_pos hin]

end Sys2Proof.Machine
end

section
/-! PROOF. The transport's cycles (43_frame_sync.md): the outputs, the bytes of the frame sent, and the read cycle of
R220, each as R254's STEP leaves it. -/

namespace Sys2Proof.Machine

/-! ### The model's own fields after a cycle -/

section Fields
variable (s : State) {p : Inputs} (h : p.rst = false)

theorem stepRule_inputs (p : Inputs) : (stepRule s p).inputs = s.inputs.tail := by
  cases h : p.rst <;> simp [stepRule, h]

include h

theorem stepRule_out : (stepRule s p).out = cycleOutputs s p (hostView s (hostReg p)) := by simp [stepRule, h]
theorem stepRule_wireTx : (stepRule s p).wireTx = if sentNow s p then s.wireTx ++ [s.txData] else s.wireTx := by
  simp [stepRule, h]

end Fields

/-! ### The outputs (R210) -/

/-- The outputs of a reset cycle are off (70_reset_and_hazards.md R330). -/
theorem cycleOutputs_rst {s : State} {p : Inputs} (h : p.rst = true) (rdata : Word) :
    (cycleOutputs s p rdata).irq = false := by
  simp [cycleOutputs, h]

/-- In any other cycle they are functions of the state. -/
theorem cycleOutputs_run {s : State} {p : Inputs} (h : p.rst = false) (rdata : Word) :
    cycleOutputs s p rdata =
      { txValid := s.txValid, txData := s.txData, rxReady := s.rxReady, irq := s.irq, hbRdata := rdata } := by
  simp [cycleOutputs, h]

/-- With every event masked the interrupt line is low. -/
theorem irq_of_ien_zero {s : State} (h : s.ien = 0) : s.irq = false := by simp [State.irq, h]

/-! ### The frame of a transmit state (R211, R213) -/

theorem txData_txCmd {s : State} (hq : s.seqState = .txCmd) : s.txData = s.cmdByte s.txIdx.toNat := by
  simp [State.txData, State.txOffer, State.cmdByte, hq]

theorem txData_txQry {s : State} (hq : s.seqState = .txQry) (hi : s.txIdx.toNat < Config.kQryLen) :
    s.txData = Config.queryFrame s.txIdx.toNat := by
  simp [State.txData, State.txOffer, hq, hi]

theorem txData_other {s : State} (hc : s.seqState ≠ .txCmd) (hq : s.seqState ≠ .txQry) : s.txData = 0 := by
  unfold State.txData State.txOffer
  split
  · exact absurd ‹_› hc
  · exact absurd ‹_› hq
  · rfl

/-- The frame the transmit engine sends in this STATE. -/
def frameBytes (s : State) : List Byte :=
  match s.seqState with
  | .txCmd => s.cmd.toList
  | .txQry => (List.range Config.kQryLen).map Config.queryFrame
  | _ => []

theorem frameBytes_txCmd {s : State} (hq : s.seqState = .txCmd) : frameBytes s = s.cmd.toList := by
  simp [frameBytes, hq]

theorem frameBytes_txQry {s : State} (hq : s.seqState = .txQry) :
    frameBytes s = (List.range Config.kQryLen).map Config.queryFrame := by
  simp [frameBytes, hq]

/-- The byte offered is the byte at TX_IDX of the frame. -/
theorem getElem?_frameBytes {s : State} (hi : s.txIdx.toNat < (frameBytes s).length) :
    (frameBytes s)[s.txIdx.toNat]? = some s.txData := by
  cases hq : s.seqState with
  | txCmd =>
    rw [frameBytes_txCmd hq, Vector.length_toList] at hi
    rw [frameBytes_txCmd hq, txData_txCmd hq, State.cmdByte]
    simp [hi]
  | txQry =>
    rw [frameBytes_txQry hq, List.length_map, List.length_range] at hi
    rw [frameBytes_txQry hq, txData_txQry hq hi]
    simp [hi]
  | idle | settle | hunt | acc | decode => simp [frameBytes, hq] at hi

section Sending
variable {s : State} {p : Inputs} (hq : s.seqState = .txCmd ∨ s.seqState = .txQry)
include hq

/-- The last byte of the frame is the one before the frame's end. -/
theorem lastSentNow_eq : lastSentNow s p = (p.txReady && decide (s.txIdx.toNat + 1 = (frameBytes s).length)) := by
  have hcmd : ∀ n, n + 1 = Config.kCmdLen ↔ n = 34 := fun n => Nat.succ_inj
  have hqry : ∀ n, n + 1 = Config.kQryLen ↔ n = 7 := fun n => Nat.succ_inj
  rcases hq with hq | hq
  · simp [lastSentNow, frameBytes_txCmd, hq, hcmd]
  · simp [lastSentNow, frameBytes_txQry, hq, hqry]

/-- A transmit cycle at an index its frame has is R254's STEP. -/
theorem clockEdge_sending (h : p.rst = false) (hi : s.txIdx.toNat < (frameBytes s).length) :
    clockEdge p s = .next (stepRule s p) := by
  rcases hq with hq | hq
  · exact clockEdge_txCmd h hq (by simpa [frameBytes_txCmd hq] using hi)
  · exact clockEdge_txQry h hq (by simpa [frameBytes_txQry hq] using hi)

/-- A transmit cycle in which the UART takes no byte is R254's STEP at any index. -/
theorem clockEdge_stalled (h : p.rst = false) (hy : p.txReady = false) : clockEdge p s = .next (stepRule s p) := by
  have hi : internalOps s p = [] := by rcases hq with hq | hq <;> simp [internalOps, hq, hy]
  rw [clockEdge_busy h (by rcases hq with hq | hq <;> simp [hq]) hi (runOps_nil _), finishCycle_run _ h]
  rcases hq with hq | hq <;>
    simp [stepRule, h, hq, hy, pollStartNow, cntNow, pollStarted, eventsNow_eq, timeoutNow]

end Sending

/-! ### Events -/

/-- A bit of an event's word. -/
theorem eventIf_getLsbD (b : Bool) (e : Event) (n : Nat) :
    (eventIf b e).getLsbD n = (b && decide (n = eventCode e)) := by
  cases b with
  | false => simp
  | true =>
    have he : eventBit e = BitVec.twoPow 6 (eventCode e) := (BitVec.twoPow_eq 6 _).symm
    have hc : eventCode e < 6 := by cases e <;> decide
    simp [he, hc, BitVec.getLsbD_twoPow, eq_comm]

/-- The bits a cycle clears are those the host's write to EVT names. -/
theorem hostClears_getLsbD (p : Inputs) {n : Nat} (hn : n < 6) : (hostClears p).getLsbD n = hostWritesBit p 3 n := by
  by_cases hc : p.hbWe = true ∧ hostReg p = 3
  · obtain ⟨hw, hg⟩ := hc
    simp [hostClears, hostWritesBit, hw, hg, hn]
  · have hb : (p.hbWe && hostReg p == 3) = false := by simpa using hc
    simp [hostClears, hc, hostWritesBit, hb]

/-- TIMEOUT is raised exactly where the budget runs out. -/
theorem eventsNow_timeout (s : State) (p : Inputs) : (eventsNow s p).getLsbD 5 = timeoutNow s p := by
  simp only [eventsNow, BitVec.getLsbD_or, eventIf_getLsbD, eventCode]
  simp

/-- The host's transaction raises none of the exchange's own events. -/
theorem hostEvents_and_exchangeEvents (s : State) (p : Inputs) : hostEvents s p &&& 0b100111 = 0 := by
  have h : ∀ a b, (eventIf a .dropped ||| eventIf b .badop) &&& 0b100111 = 0 := by decide
  exact h _ _

/-! ### The read cycle (R220) -/

section Reading
variable {s : State} {p : Inputs} (hr : s.seqState = .hunt ∨ s.seqState = .acc)
include hr

theorem pollStartNow_reading : pollStartNow s p = false := by
  rcases hr with hq | hq <;> simp [pollStartNow, hq]

theorem stepRule_rxbuf_eq_readCycle (h : p.rst = false) : (stepRule s p).rxbuf = (readCycle s p).rxbuf := by
  rw [stepRule_rxbuf s h, pollStartNow_reading hr]
  simp only [readCycle, markerNow, storedNow, decide_eq_true_eq]
  rfl

theorem stepRule_rxCnt_eq_readCycle (h : p.rst = false) : (stepRule s p).rxCnt = (readCycle s p).cnt := by
  rw [stepRule_rxCnt s h, pollStartNow_reading hr]
  simp only [readCycle, cntNow, markerNow, storedNow, decide_eq_true_eq]
  rfl

theorem stepRule_tmoCnt_eq_readCycle (h : p.rst = false) : (stepRule s p).tmoCnt = (readCycle s p).tmoCnt := by
  rw [stepRule_tmoCnt s h]
  rcases hr with hq | hq <;> simp [readCycle, hq]

theorem timeoutNow_eq_readCycle : timeoutNow s p = (readCycle s p).tmo := by
  simp [-BitVec.toNat_add, timeoutNow, readCycle, hr]

theorem transitionTable_reading : transitionTable s p =
    if readEndsNow s p then .decode else if s.seqState = .acc ∨ markerNow s p then .acc else .hunt := by
  rcases hr with hq | hq
  · rw [transitionTable_hunt hq]
    simp [hq, -markerNow_hunt]
  · simp [hq]

theorem readEndsNow_eq (h : p.rst = false) :
    readEndsNow s p = decide ((readCycle s p).cnt.toNat = 80 ∨ (readCycle s p).tmo = true) := by
  have hc : cntNow s p = (readCycle s p).cnt := by
    rw [← stepRule_rxCnt_eq_readCycle hr h, stepRule_rxCnt s h, pollStartNow_reading hr]
    rfl
  simp only [readEndsNow, reading_yes hr, hc, timeoutNow_eq_readCycle hr, true_and]

theorem stepRule_seqState_eq_readCycle (h : p.rst = false) : (stepRule s p).seqState = (readCycle s p).next := by
  rw [stepRule_seqState s h, transitionTable_reading hr, readEndsNow_eq hr h]
  simp only [markerNow, decide_eq_true_eq]
  rfl

end Reading

end Sys2Proof.Machine
end

section
/-! PROOF. Runs over listed samples, extended by one cycle at their end. -/

namespace Sys2Proof.Machine

/-! ### Runs extended at their end -/

/-- `n` cycles lead from `s` to `t` and use up the first `n` listed samples. -/
structure Reaches (s : State) (n : Nat) (t : State) : Prop where
  run : runCycles n s = .next t
  inputs : t.inputs = s.inputs.drop n

theorem Reaches.refl (s : State) : Reaches s 0 s := ⟨rfl, rfl⟩

/-- A run goes on with the cycle of the next listed sample. -/
theorem Reaches.cycle {s t : State} {n : Nat} {p : Inputs} (h : Reaches s n t) (hp : s.inputs[n]? = some p)
    (hc : clockEdge p t = .next (stepRule t p)) : Reaches s (n + 1) (stepRule t p) := by
  have hports : t.ports = p := by
    refine ports_of_cons (ps := s.inputs.drop (n + 1)) ?_
    obtain ⟨hn, rfl⟩ := List.getElem?_eq_some_iff.1 hp
    rw [h.inputs, List.drop_eq_getElem_cons hn]
  have hs : step t = .next (stepRule t p) := by rw [← hc, ← hports, step]
  refine ⟨?_, by rw [stepRule_inputs, h.inputs, List.tail_drop]⟩
  rw [runCycles_add h.run, runCycles_succ hs, runCycles_zero]

section Samples
variable {s : State} {good : Inputs → Prop} {n : Nat} (hg : SamplesMeet n s good)
include hg

/-- Each of the listed samples meets what all of them meet. -/
theorem SamplesMeet.sample {k : Nat} (hk : k < n) : ∃ p, s.inputs[k]? = some p ∧ good p := by
  obtain ⟨hl, hall⟩ := hg
  exact ⟨_, List.getElem?_eq_getElem (hk.trans_le hl), hall _ (List.mem_take_iff_getElem.2 ⟨k, by omega, rfl⟩)⟩

/-- A shorter run has the same samples. -/
theorem SamplesMeet.mono {m : Nat} (hm : m ≤ n) : SamplesMeet m s good := by
  obtain ⟨hl, hall⟩ := hg
  exact ⟨hm.trans hl, fun p hp => hall p ((List.take_prefix_take_left hm).subset hp)⟩

/-- What holds at the start and goes over from each cycle to the next holds where the run ends. -/
theorem SamplesMeet.reaches {P : Nat → State → Prop} (h0 : P 0 s)
    (hstep : ∀ k t p, k < n → s.inputs[k]? = some p → good p → P k t →
      clockEdge p t = .next (stepRule t p) ∧ P (k + 1) (stepRule t p)) :
    ∃ t, Reaches s n t ∧ P n t := by
  induction n with
  | zero => exact ⟨s, .refl s, h0⟩
  | succ n ih =>
    obtain ⟨t, ht, hP⟩ := ih (hg.mono (Nat.le_succ n)) fun k t p hk => hstep k t p (hk.trans (Nat.lt_succ_self n))
    obtain ⟨p, hp, hgood⟩ := hg.sample (Nat.lt_succ_self n)
    obtain ⟨hc, hP'⟩ := hstep n t p (Nat.lt_succ_self n) hp hgood hP
    exact ⟨_, ht.cycle hp hc, hP'⟩

end Samples

/-! ### Ticks of a run -/

theorem ticksIn_succ_last {s : State} {n : Nat} {p : Inputs} (hp : s.inputs[n]? = some p) :
    ticksIn (n + 1) s = ticksIn n s + p.tickMs.toNat := by
  rw [ticksIn, List.take_add_one, hp, List.countP_append]
  cases ht : p.tickMs <;> simp [ticksIn, ht]

/-- One more tick than before is the last cycle's own. -/
theorem tick_of_ticksIn_succ {s : State} {n : Nat} {p : Inputs} (hp : s.inputs[n]? = some p)
    (h : ticksIn (n + 1) s = ticksIn n s + 1) : p.tickMs = true := by
  rw [ticksIn_succ_last hp] at h
  exact Bool.toNat_eq_one.1 (Nat.add_left_cancel h)

/-- A tick counter counts the tick of the cycle. -/
theorem toNat_countTick {x : BitVec 10} (tick : Bool) (hlt : x.toNat < 1023) :
    (if tick then x + 1 else x).toNat = x.toNat + tick.toNat := by
  cases tick with
  | false => rfl
  | true => exact toNat_add_one (by omega)

/-- A tick counter that stays below its limit has not reached it with this cycle's tick. -/
theorem countTick_below {x : BitVec 10} {tick : Bool} {limit : Nat} (hl : limit ≤ 1023)
    (hlt : x.toNat + tick.toNat < limit) : ¬ (tick = true ∧ limit ≤ (x + 1).toNat) := by
  rintro ⟨rfl, hge⟩
  rw [toNat_add_one (hlt.trans_le (hl.trans (by decide)))] at hge
  exact absurd hge (Nat.not_le.2 hlt)

theorem ticksIn_mono (s : State) {m n : Nat} (h : m ≤ n) : ticksIn m s ≤ ticksIn n s :=
  (List.take_sublist_take_left h).countP_le

end Sys2Proof.Machine
end

section
/-! PROOF. What the transport's states do over a run: transmit, settle, and read (43_frame_sync.md R211 to R221). -/

namespace Sys2Proof.Machine

/-! ### Transmit (R211 to R213) -/

/-- `k` bytes of the frame of `s` are sent, and neither the frame nor the receive registers have changed. -/
structure Sending (s : State) (k : Nat) (t : State) : Prop where
  seqState : t.seqState = s.seqState
  txIdx : t.txIdx.toNat = k
  wireTx : t.wireTx = s.wireTx ++ (frameBytes s).take k
  cmd : t.cmd = s.cmd
  rxCnt : t.rxCnt = s.rxCnt
  rxbuf : t.rxbuf = s.rxbuf

theorem Sending.frame_kept {s t : State} {k : Nat} (h : Sending s k t) : frameBytes t = frameBytes s := by
  simp only [frameBytes, h.seqState, h.cmd]

/-- No frame is longer than the command frame. -/
theorem frameBytes_length_le (s : State) : (frameBytes s).length ≤ 35 := by
  unfold frameBytes
  cases s.seqState <;> simp [Config.kQryLen]

/-- Clearing bits, and setting bits outside the mask, sets no new bit inside it. -/
theorem newBits_zero {w : Nat} {e c x m o : BitVec w} (he : e &&& m &&& ~~~o = 0) (hx : x &&& m = 0) :
    (e &&& ~~~c ||| x) &&& m &&& ~~~o = 0 := by
  rw [or_and_mask hx, show e &&& ~~~c &&& m &&& ~~~o = e &&& m &&& ~~~o &&& ~~~c by ac_rfl, he]
  exact BitVec.zero_and

/-- A transmit cycle raises none of the exchange's own events. -/
theorem eventsNow_sending {s : State} (hq : s.seqState = .txCmd ∨ s.seqState = .txQry) (p : Inputs) :
    eventsNow s p = hostEvents s p := by
  rw [eventsNow_eq]
  rcases hq with hq | hq <;> simp [hq, timeoutNow]

section Transmit
variable {s : State} {p : Inputs} (hq : s.seqState = .txCmd ∨ s.seqState = .txQry) (h : p.rst = false)
include hq h

/-- What a transmit cycle keeps, whether a byte is taken or not. -/
theorem transmit_keeps : (stepRule s p).cmd = s.cmd ∧ (stepRule s p).rxCnt = s.rxCnt ∧
    (stepRule s p).rxbuf = s.rxbuf := by
  rw [stepRule_cmd s h, stepRule_rxCnt s h, stepRule_rxbuf s h]
  rcases hq with hq | hq <;> simp [hq, pollStartNow, cntNow]

/-- Before the end of the frame a transmit cycle keeps its STATE. -/
theorem transmit_seqState (hl : lastSentNow s p = false) : (stepRule s p).seqState = s.seqState := by
  rw [stepRule_seqState s h]
  rcases hq with hq | hq
  · have hn : ¬ (p.txReady = true ∧ s.txIdx = 34) := by simpa [hq] using hl
    rw [transitionTable_txCmd hq, if_neg hn, hq]
  · have hn : ¬ (p.txReady = true ∧ s.txIdx = 7) := by simpa [hq] using hl
    rw [transitionTable_txQry hq, if_neg hn, hq]

/-- TX_IDX counts the byte taken, and returns to 0 at the end of the frame. -/
theorem transmit_txIdx :
    (stepRule s p).txIdx = if lastSentNow s p then 0 else if p.txReady then s.txIdx + 1 else s.txIdx := by
  rw [stepRule_txIdx s h, sentNow_sending hq]
  rcases hq with hq | hq <;> simp [hq, pollStartNow]

/-- A transmit cycle without a byte taken keeps STATE, TX_IDX and the stream. -/
theorem transmit_stalled (hy : p.txReady = false) :
    (stepRule s p).seqState = s.seqState ∧ (stepRule s p).txIdx = s.txIdx ∧ (stepRule s p).wireTx = s.wireTx := by
  have hl : lastSentNow s p = false := by simp [lastSentNow, hy]
  rw [transmit_seqState hq h hl, transmit_txIdx hq h, hl, stepRule_wireTx s h, sentNow_sending hq, hy]
  exact ⟨rfl, rfl, rfl⟩

end Transmit

/-- A transmit cycle whose byte is taken adds the frame's next byte to the stream. -/
theorem Sending.wireTx_next {s t : State} {k : Nat} {p : Inputs} (ht : Sending s k t)
    (hq : s.seqState = .txCmd ∨ s.seqState = .txQry) (h : p.rst = false) (hy : p.txReady = true)
    (hk : k < (frameBytes s).length) :
    (stepRule t p).wireTx = s.wireTx ++ (frameBytes s).take (k + 1) := by
  have hb : (frameBytes s)[k]? = some t.txData := by
    rw [← ht.frame_kept, ← ht.txIdx]
    exact getElem?_frameBytes (by rwa [ht.frame_kept, ht.txIdx])
  rw [stepRule_wireTx t h, sentNow_sending (ht.seqState ▸ hq), hy, if_pos rfl, ht.wireTx, List.take_add_one, hb,
    List.append_assoc]
  rfl

/-- A byte before the frame's last one is sent. -/
theorem Sending.next {s t : State} {k : Nat} {p : Inputs} (ht : Sending s k t)
    (hq : s.seqState = .txCmd ∨ s.seqState = .txQry) (h : p.rst = false) (hy : p.txReady = true)
    (hk : k + 1 < (frameBytes s).length) : Sending s (k + 1) (stepRule t p) := by
  have hqt : t.seqState = .txCmd ∨ t.seqState = .txQry := ht.seqState ▸ hq
  have hl : lastSentNow t p = false := by
    rw [lastSentNow_eq hqt, ht.txIdx, ht.frame_kept, hy, Bool.true_and]
    exact decide_eq_false hk.ne
  obtain ⟨hcmd, hcnt, hbuf⟩ := transmit_keeps hqt h
  exact {
    seqState := (transmit_seqState hqt h hl).trans ht.seqState
    txIdx := by
      have hlt := hk.trans_le (frameBytes_length_le s)
      simp only [transmit_txIdx hqt h, hl, hy, if_true, Bool.false_eq_true, if_false]
      rw [toNat_add_one (by rw [ht.txIdx]; omega), ht.txIdx]
    wireTx := ht.wireTx_next hq h hy (Nat.lt_of_succ_lt hk)
    cmd := hcmd.trans ht.cmd
    rxCnt := hcnt.trans ht.rxCnt
    rxbuf := hbuf.trans ht.rxbuf }

/-- A frame of `n + 1` bytes goes out in `n + 1` cycles, the last one being R254's STEP after `n` bytes. -/
theorem sends_frame {s : State} {n : Nat} (hlen : (frameBytes s).length = n + 1) (h0 : s.txIdx = 0)
    (hq : s.seqState = .txCmd ∨ s.seqState = .txQry)
    (hg : SamplesMeet (n + 1) s fun p => p.rst = false ∧ p.txReady = true) :
    ∃ t p, Sending s n t ∧ p.rst = false ∧ lastSentNow t p = true ∧
      runCycles (n + 1) s = .next (stepRule t p) ∧ (stepRule t p).wireTx = s.wireTx ++ frameBytes s := by
  have hcycle : ∀ k t p, k < n + 1 → p.rst = false → Sending s k t → clockEdge p t = .next (stepRule t p) :=
    fun k t p hk h ht => clockEdge_sending (ht.seqState ▸ hq) h (by rwa [ht.frame_kept, ht.txIdx, hlen])
  have hstart : Sending s 0 s := ⟨rfl, by rw [h0]; rfl, by simp, rfl, rfl, rfl⟩
  obtain ⟨t, hr, ht⟩ := (hg.mono (Nat.le_succ n)).reaches hstart fun k t p hk _ ⟨h, hy⟩ ht =>
    ⟨hcycle k t p (by omega) h ht, ht.next hq h hy (by omega)⟩
  obtain ⟨p, hp, hrst, hy⟩ := hg.sample (Nat.lt_succ_self n)
  refine ⟨t, p, ht, hrst, ?_, (hr.cycle hp (hcycle n t p (Nat.lt_succ_self n) hrst ht)).run, ?_⟩
  · rw [lastSentNow_eq (ht.seqState ▸ hq), ht.txIdx, ht.frame_kept, hlen, hy]
    simp
  · rw [ht.wireTx_next hq hrst hy (by omega), ← hlen, List.take_length]

/-- The transmit state is as in `s`, and no event of the exchange's own is new since `s`. -/
structure Stalled (s t : State) : Prop where
  seqState : t.seqState = s.seqState
  txIdx : t.txIdx = s.txIdx
  wireTx : t.wireTx = s.wireTx
  cmd : t.cmd = s.cmd
  events : t.evt &&& 0b100111 &&& ~~~s.evt = 0

theorem Stalled.refl (s : State) : Stalled s s := by
  refine ⟨rfl, rfl, rfl, rfl, ?_⟩
  rw [BitVec.and_comm s.evt, BitVec.and_assoc, BitVec.and_not_self]
  exact BitVec.and_zero

/-- A cycle in which no byte is taken. -/
theorem Stalled.next {s t : State} {p : Inputs} (ht : Stalled s t) (hq : s.seqState = .txCmd ∨ s.seqState = .txQry)
    (h : p.rst = false) (hy : p.txReady = false) : Stalled s (stepRule t p) := by
  have hqt : t.seqState = .txCmd ∨ t.seqState = .txQry := ht.seqState ▸ hq
  obtain ⟨hcmd, -, -⟩ := transmit_keeps hqt h
  obtain ⟨hseq, hidx, hwire⟩ := transmit_stalled hqt h hy
  refine ⟨hseq.trans ht.seqState, hidx.trans ht.txIdx, hwire.trans ht.wireTx, hcmd.trans ht.cmd, ?_⟩
  rw [stepRule_evt t h, eventsNow_sending hqt]
  exact newBits_zero ht.events (hostEvents_and_exchangeEvents t p)

/-! ### The settle delay (R221) -/

/-- The block is in SETTLE and SET_CNT has counted the ticks of `k` cycles. -/
structure Settling (s : State) (k : Nat) (t : State) : Prop where
  seqState : t.seqState = .settle
  setCnt : t.setCnt.toNat = s.setCnt.toNat + ticksIn k s
  wireTx : t.wireTx = s.wireTx

section Settle
variable {s : State} {p : Inputs} (hq : s.seqState = .settle) (h : p.rst = false)
include hq h

theorem settle_wireTx : (stepRule s p).wireTx = s.wireTx := by simp [stepRule_wireTx s h, hq]

theorem settle_setCnt : (stepRule s p).setCnt = if p.tickMs then s.setCnt + 1 else s.setCnt := by
  simp [stepRule_setCnt s h, hq]

/-- SET_CNT counts the tick of the cycle. -/
theorem settle_setCnt_toNat (hlt : s.setCnt.toNat < 1023) :
    (stepRule s p).setCnt.toNat = s.setCnt.toNat + p.tickMs.toNat := by
  rw [settle_setCnt hq h, toNat_countTick _ hlt]

/-- The cycle after which SET_CNT is below K_SETTLE stays in SETTLE. -/
theorem settle_stays (hlt : s.setCnt.toNat + p.tickMs.toNat < 700) : (stepRule s p).seqState = .settle := by
  rw [stepRule_seqState s h, transitionTable_settle hq, if_neg (countTick_below (by decide) hlt)]

/-- The tick that brings SET_CNT to K_SETTLE starts the poll. -/
theorem settle_ends (ht : p.tickMs = true) (hc : s.setCnt = 699) :
    (stepRule s p).seqState = .txQry ∧ (stepRule s p).setCnt = 700 := by
  rw [stepRule_seqState s h, transitionTable_settle hq, settle_setCnt hq h, ht, hc]
  decide

end Settle

theorem Settling.next {s t : State} {k : Nat} {p : Inputs} (ht : Settling s k t) (hp : s.inputs[k]? = some p)
    (h : p.rst = false) (hlt : s.setCnt.toNat + ticksIn (k + 1) s < 700) : Settling s (k + 1) (stepRule t p) := by
  rw [ticksIn_succ_last hp] at hlt
  have hc := ht.setCnt
  exact {
    seqState := settle_stays ht.seqState h (by omega)
    setCnt := by rw [settle_setCnt_toNat ht.seqState h (by omega), hc, ticksIn_succ_last hp, Nat.add_assoc]
    wireTx := (settle_wireTx ht.seqState h).trans ht.wireTx }

/-- Below K_SETTLE the block is still in SETTLE. -/
theorem settles {s : State} {n : Nat} (hq : s.seqState = .settle) (hg : SamplesMeet n s fun p => p.rst = false)
    (hlt : s.setCnt.toNat + ticksIn n s < 700) : ∃ t, Reaches s n t ∧ Settling s n t := by
  refine hg.reaches (P := Settling s) ⟨hq, rfl, rfl⟩ fun k t p hk hp h ht =>
    ⟨clockEdge_settle h ht.seqState, ?_⟩
  have hmono : ticksIn (k + 1) s ≤ ticksIn n s := ticksIn_mono s hk
  exact ht.next hp h (by omega)

/-! ### Reads (R216 to R220) -/

section Read
variable {s : State} {p : Inputs} (hr : s.seqState = .hunt ∨ s.seqState = .acc) (h : p.rst = false)
include hr h

theorem reading_ds : (stepRule s p).ds = s.ds := by
  rw [stepRule_ds s h]
  rcases hr with hq | hq <;> simp [hq]

theorem reading_tmoCnt : (stepRule s p).tmoCnt = if p.tickMs then s.tmoCnt + 1 else s.tmoCnt :=
  stepRule_tmoCnt_eq_readCycle hr h

/-- TMO_CNT counts the tick of the cycle. -/
theorem reading_tmoCnt_toNat (hlt : s.tmoCnt.toNat < 1023) :
    (stepRule s p).tmoCnt.toNat = s.tmoCnt.toNat + p.tickMs.toNat := by
  rw [reading_tmoCnt hr h, toNat_countTick _ hlt]

end Read

/-- Below K_TMO the budget does not run out. -/
theorem timeoutNow_below {s : State} {p : Inputs} (hlt : s.tmoCnt.toNat + p.tickMs.toNat < 500) :
    timeoutNow s p = false :=
  decide_eq_false fun ⟨_, hout⟩ => countTick_below (by decide) hlt hout

/-- No byte has come in `k` cycles of HUNT, and TMO_CNT has counted their ticks. -/
structure Waiting (s : State) (k : Nat) (t : State) : Prop where
  inv : Inv t
  seqState : t.seqState = .hunt
  tmoCnt : t.tmoCnt.toNat = s.tmoCnt.toNat + ticksIn k s
  ds : t.ds = s.ds

/-- A HUNT cycle without a byte keeps the buffer empty; the read ends with the budget alone. -/
theorem hunt_silent {s : State} {p : Inputs} (hv : Inv s) (hq : s.seqState = .hunt) (hn : p.rxValid = false) :
    markerNow s p = false ∧ cntNow s p = 0 ∧ readEndsNow s p = timeoutNow s p := by
  have hm : markerNow s p = false := by rw [markerNow_hunt hq, hn, Bool.false_and]
  have hc : cntNow s p = 0 := by simp [cntNow, hm, hq, hv.noByteYet (.inr hq), -markerNow_hunt]
  exact ⟨hm, hc, by simp [readEndsNow, hq, hc]⟩

theorem Waiting.next {s t : State} {k : Nat} {p : Inputs} (ht : Waiting s k t) (hp : s.inputs[k]? = some p)
    (h : p.rst = false) (hn : p.rxValid = false) (hlt : s.tmoCnt.toNat + ticksIn (k + 1) s < 500) :
    Waiting s (k + 1) (stepRule t p) := by
  rw [ticksIn_succ_last hp] at hlt
  have hc := ht.tmoCnt
  obtain ⟨hm, -, he⟩ := hunt_silent ht.inv ht.seqState hn
  rw [timeoutNow_below (by omega)] at he
  exact {
    inv := ht.inv.next h
    seqState := (enters_hunt_iff t h).2 (.inr ⟨ht.seqState, he, hm⟩)
    tmoCnt := by rw [reading_tmoCnt_toNat (.inl ht.seqState) h (by omega), hc, ticksIn_succ_last hp, Nat.add_assoc]
    ds := (reading_ds (.inl ht.seqState) h).trans ht.ds }

/-- The tick that brings TMO_CNT to K_TMO ends the read with TIMEOUT and nothing received. -/
theorem hunt_times_out {s : State} {p : Inputs} (hv : Inv s) (hq : s.seqState = .hunt) (h : p.rst = false)
    (hn : p.rxValid = false) (ht : p.tickMs = true) (hc : s.tmoCnt = 499) :
    (stepRule s p).seqState = .decode ∧ (stepRule s p).tmoCnt = 500 ∧ (stepRule s p).evt.getLsbD 5 = true ∧
      (stepRule s p).rxCnt = 0 := by
  obtain ⟨-, hcnt, he⟩ := hunt_silent hv hq hn
  have hout : timeoutNow s p = true := decide_eq_true ⟨reading_yes (.inl hq), ht, by rw [hc]; decide⟩
  refine ⟨(enters_decode_iff s h).2 (he.trans hout), ?_, ?_, ?_⟩
  · rw [reading_tmoCnt (.inl hq) h, if_pos ht, hc]
    rfl
  · rw [stepRule_evt s h, BitVec.getLsbD_or, eventsNow_timeout, hout, Bool.or_true]
  · rw [stepRule_rxCnt s h, pollStartNow_reading (.inl hq), hcnt]
    rfl

/-- A read that received nothing is no reply. -/
theorem Inv.replyValid_empty {s : State} (hv : Inv s) (hq : s.seqState = .decode) (hc : s.rxCnt = 0) :
    s.replyValid = false := by
  rw [replyValid_eq_false_iff]
  rintro ⟨hmarker, -⟩
  have hpos := (hv.markerFirst (.inr hq)).1 hmarker
  rw [hc] at hpos
  exact absurd hpos (by decide)

/-- DECODE on anything but a reply ends in IDLE with DONE and NOTREPLY, LAST_VALID 0 and DS kept. -/
theorem decode_notReply {s : State} {p : Inputs} (hq : s.seqState = .decode) (hv : s.replyValid = false)
    (h : p.rst = false) : (stepRule s p).seqState = .idle ∧ (stepRule s p).lastValid = false ∧
      (stepRule s p).ds = s.ds ∧ (stepRule s p).evt.getLsbD 0 = true ∧ (stepRule s p).evt.getLsbD 2 = true := by
  rw [stepRule_seqState s h, stepRule_lastValid s h, stepRule_ds s h, stepRule_evt s h, eventsNow_notReply hq hv]
  simp [hq, hv]

/-! ### A whole reply (R216 to R218) -/

/-- The index at which a read stores its next byte: 0 until the marker has come. -/
def readIndex (s : State) : Nat := if s.seqState = .hunt then 0 else s.rxCnt.toNat

/-- A cycle of the read that offers a byte, in HUNT the marker, stores it at the read's index and counts it. -/
theorem reading_byte {s : State} {p : Inputs} (hr : s.seqState = .hunt ∨ s.seqState = .acc) (h : p.rst = false)
    (hv : p.rxValid = true) (hm : s.seqState = .hunt → p.rxData = 0xBB) (hi : readIndex s < 80) :
    (stepRule s p).rxbuf = s.rxbuf.setIfInBounds (readIndex s) p.rxData ∧
      (stepRule s p).rxCnt.toNat = readIndex s + 1 ∧
      (s.seqState = .acc ∨ markerNow s p = true) := by
  rw [stepRule_rxbuf s h, stepRule_rxCnt s h, pollStartNow_reading hr]
  rcases hr with hq | hq
  · have hmark : markerNow s p = true := by
      rw [markerNow_hunt hq, hv, hm hq]
      rfl
    simp only [cntNow, hmark, readIndex, if_pos hq, hm hq]
    exact ⟨rfl, rfl, .inr trivial⟩
  · have hidx : readIndex s = s.rxCnt.toNat := if_neg (by simp [hq])
    rw [hidx] at hi ⊢
    simp only [cntNow, markerNow_other (by simp [hq] : s.seqState ≠ .hunt), storedNow_acc hq, hv]
    exact ⟨rfl, toNat_add_one (by omega), .inl hq⟩

/-- `k` bytes of a reply offered from HUNT on are stored in order, the read ends with the last one, and TMO_CNT has
counted the ticks. -/
structure Collecting (s : State) (k : Nat) (t : State) : Prop where
  reading : k < 80 → t.seqState = .hunt ∨ t.seqState = .acc
  ended : k = 80 → t.seqState = .decode
  index : readIndex t = k
  stored : ∀ i < k, t.rxbuf[i]? = s.inputs[i]?.map Inputs.rxData
  tmoCnt : t.tmoCnt.toNat = s.tmoCnt.toNat + ticksIn k s
  ds : t.ds = s.ds

theorem Collecting.next {s t : State} {k : Nat} {p : Inputs} (ht : Collecting s k t) (hk : k < 80)
    (hp : s.inputs[k]? = some p) (h : p.rst = false) (hv : p.rxValid = true) (hm : k = 0 → p.rxData = 0xBB)
    (hlt : s.tmoCnt.toNat + ticksIn (k + 1) s < 500) : Collecting s (k + 1) (stepRule t p) := by
  rw [ticksIn_succ_last hp] at hlt
  have hr := ht.reading hk
  have hc := ht.tmoCnt
  have hidx := ht.index
  have hm' : t.seqState = .hunt → p.rxData = 0xBB := fun hq => hm (hidx.symm.trans (if_pos hq))
  obtain ⟨hbuf, hcnt, hacc⟩ := reading_byte hr h hv hm' (hidx.trans_lt hk)
  rw [hidx] at hbuf hcnt
  have hseq : (stepRule t p).seqState = if k + 1 = 80 then .decode else .acc := by
    have hb : timeoutNow t p = false := timeoutNow_below (by omega)
    have he : readEndsNow t p = decide (k + 1 = 80) := by
      rw [readEndsNow_eq hr h, ← stepRule_rxCnt_eq_readCycle hr h, hcnt, ← timeoutNow_eq_readCycle hr, hb]
      simp
    rw [stepRule_seqState t h, transitionTable_reading hr, he, if_pos hacc]
    simp
  exact {
    reading := fun hk' => .inr (by rw [hseq, if_neg hk'.ne])
    ended := fun hk' => by rw [hseq, if_pos hk']
    index := by
      have hne : (stepRule t p).seqState ≠ .hunt := by
        rw [hseq]
        split_ifs <;> decide
      rw [readIndex, if_neg hne, hcnt]
    stored := fun i hi => by
      rw [hbuf, Vector.getElem?_setIfInBounds]
      rcases Nat.lt_succ_iff_lt_or_eq.1 hi with hlt | rfl
      · rw [if_neg hlt.ne', ht.stored i hlt]
      · rw [if_pos rfl, if_pos hk, hp, Option.map_some]
    tmoCnt := by rw [reading_tmoCnt_toNat hr h (by omega), hc, ticksIn_succ_last hp, Nat.add_assoc]
    ds := (reading_ds hr h).trans ht.ds }

end Sys2Proof.Machine
end

section
/-! PROOF. The statements of 43_frame_sync.md. -/

namespace Sys2Proof.Machine

/-- Settles O35: the byte offered is the frame's byte at TX_IDX. -/
theorem transmitByte : Obligations.TransmitByte := by
  refine ⟨fun s hq hi => ?cmdByte, fun s hq hi => ?cmdLast, fun s hq hi => ?qryByte, fun s hq hi => ?qryLast⟩
  case cmdByte =>
    have hn : s.txIdx.toNat ≠ Config.kCmdLen - 1 := Nat.ne_of_lt hi
    simp only [exec_txCmdByte hq (Nat.lt_succ_of_lt hi), txData_txCmd hq, if_neg hn]
    rw [← hq]
  case cmdLast => simp [exec_txCmdByte hq, txData_txCmd hq, hi]
  case qryByte =>
    have hlt : s.txIdx.toNat < Config.kQryLen := Nat.lt_succ_of_lt hi
    have hn : s.txIdx.toNat ≠ Config.kQryLen - 1 := Nat.ne_of_lt hi
    simp only [exec_txQryByte hq hlt, txData_txQry hq hlt, if_neg hn]
    rw [← hq]
  case qryLast =>
    have hlt : s.txIdx.toNat < Config.kQryLen := by simp [hi]
    simp [exec_txQryByte hq hlt, txData_txQry hq hlt, hi]

/-- Settles O36: POLL_START is these four writes. -/
theorem pollStart : Obligations.PollStart := fun _ => rfl

/-- Settles O37: the byte stored is the only byte of RXBUF that changes. -/
theorem receiveByte : Obligations.ReceiveByte := by
  refine ⟨fun s b hq hb => ?other, fun s hq => ?marker, fun s b hq hi => ?stored⟩
  case other =>
    rw [exec_huntByte b hq]
    exact congrArg _ (if_neg hb)
  case marker =>
    refine ⟨_, (exec_huntByte _ hq).trans (congrArg _ (if_pos rfl)), rfl, fun i _ => ?_⟩
    simp only [State.rxByte, getD_setIfInBounds _ _ _ _ (by decide : 0 < Config.kRxCap), eq_comm]
    rfl
  case stored =>
    refine ⟨_, exec_accByte b hq hi, rfl, fun i _ => ?_⟩
    simp only [State.rxByte, getD_setIfInBounds _ _ _ _ hi, eq_comm]

/-- Settles O38: in HUNT and ACC, CAPACITY_STOP tests RX_CNT and TIMEOUT_TICK the advanced TMO_CNT. -/
theorem readEnd : Obligations.ReadEnd := by
  intro s hr
  have hcap : s.rxCnt = 80#7 ↔ s.rxCnt.toNat = Config.kRxCap := BitVec.toNat_eq
  refine ⟨fun hc => ?full, fun hc => ?notFull, fun ht => ?counts, fun ht hw => ?times⟩
  case full => rw [exec_capacityStop hr, if_pos (hcap.1 hc)]
  case notFull => rw [exec_capacityStop hr, if_neg (mt hcap.2 hc)]
  case counts =>
    have hn : ¬ Config.kTmo ≤ (s.tmoCnt + 1).toNat := by
      rw [toNat_add_one (by omega)]
      exact Nat.not_le.2 ht
    simp only [exec_timeoutTick hr, hn, if_false, decide_false, eventIf_false, BitVec.or_zero]
  case times =>
    have hn : Config.kTmo ≤ (s.tmoCnt + 1).toNat := by
      rw [toNat_add_one (by omega)]
      exact ht
    simp only [exec_timeoutTick hr, hn]
    rfl

/-- Settles O39: SETTLE_TICK tests the advanced SET_CNT. -/
theorem settleTick : Obligations.SettleTick := by
  intro s hq
  refine ⟨fun ht => ?counts, fun ht hw => ?polls⟩
  case counts =>
    have hn : (s.setCnt + 1).toNat < Config.kSettle := by
      rw [toNat_add_one (by omega)]
      exact ht
    rw [exec_settleTick hq, if_neg (Nat.not_le.2 hn)]
  case polls =>
    have hn : Config.kSettle ≤ (s.setCnt + 1).toNat := by
      rw [toNat_add_one (by omega)]
      exact ht
    rw [exec_settleTick hq, if_pos hn]
    rfl

/-- Settles O45: R254's STEP writes in HUNT and ACC what the pseudocode of R220 leaves. -/
theorem readCycleInFull : Obligations.ReadCycleInFull := by
  intro s p hp hi hr h
  subst hp
  refine ⟨_, step_eq_stepRule hi, stepRule_rxbuf_eq_readCycle hr h, stepRule_rxCnt_eq_readCycle hr h,
    stepRule_tmoCnt_eq_readCycle hr h, stepRule_seqState_eq_readCycle hr h, ?_⟩
  rw [stepRule_evt s h, BitVec.getLsbD_or, BitVec.getLsbD_and, BitVec.getLsbD_not, hostClears_getLsbD _ (by decide),
    eventsNow_timeout, timeoutNow_eq_readCycle hr, Bool.or_comm]
  rfl

/-- Settles O47: the outputs of a cycle are functions of the state at its start. -/
theorem outputsOfTheCycle : Obligations.OutputsOfTheCycle := by
  refine ⟨fun s hi h => ⟨_, step_eq_stepRule hi, ?_⟩, fun s h => ⟨_, clockEdge_rst h, ?_⟩⟩
  · rw [stepRule_out s h, cycleOutputs_run h]
    refine ⟨rfl, ?data, rfl, ?irq, irq_of_ien_zero⟩
    case irq => exact (decide_not (p := s.evt &&& s.ien = 0)).symm
    case data =>
      cases hq : s.seqState with
      | txCmd => exact txData_txCmd hq
      | txQry => exact txData_txQry hq (hi.txQry hq)
      | idle | settle | hunt | acc | decode => exact txData_other (by simp [hq]) (by simp [hq])
  · rw [stepRule, if_pos h]
    exact cycleOutputs_rst h 0

/-! ### Runs -/

/-- Settles O55: the cycles before the last keep TX_CMD or TX_QRY, the last one sends the last byte and moves on. -/
theorem wholeFramesAreSent : Obligations.WholeFramesAreSent := by
  refine ⟨fun s hq h0 hg => ?command, fun s hq h0 hg => ?query⟩
  case command =>
    obtain ⟨t, p, ht, h, hl, hrun, hwire⟩ := sends_frame (by simp [frameBytes_txCmd hq]) h0 (.inl hq) hg
    have hqt : t.seqState = .txCmd := ht.seqState.trans hq
    obtain ⟨hcmd, -, -⟩ := transmit_keeps (.inl hqt) h
    refine ⟨_, hrun, ?_, hcmd.trans ht.cmd, ((commandSent_iff t h).1 ⟨hl, hqt⟩).2, ?_, ?_⟩
    · rw [hwire, frameBytes_txCmd hq]
    · rw [stepRule_setCnt t h, if_pos ⟨hl, hqt⟩]
    · rw [transmit_txIdx (.inl hqt) h, if_pos hl]
  case query =>
    obtain ⟨t, p, ht, h, hl, hrun, hwire⟩ := sends_frame (by simp [frameBytes_txQry hq]) h0 (.inr hq) hg
    have hqt : t.seqState = .txQry := ht.seqState.trans hq
    obtain ⟨-, hcnt, hbuf⟩ := transmit_keeps (.inr hqt) h
    refine ⟨_, hrun, ?_, ((querySent_iff t h).1 ⟨hl, hqt⟩).2, ?_, ?_, hcnt.trans ht.rxCnt, hbuf.trans ht.rxbuf⟩
    · rw [hwire, frameBytes_txQry hq]
    · rw [stepRule_tmoCnt t h, if_pos ⟨hl, hqt⟩]
    · rw [transmit_txIdx (.inr hqt) h, if_pos hl]

/-- Settles O56: a cycle without tx_ready keeps the transmit state, whatever the host writes. -/
theorem transmitStall : Obligations.TransmitStall := by
  intro n s hq hg
  obtain ⟨t, hr, ht⟩ := hg.reaches (P := fun _ => Stalled s) (.refl s) fun _ _ _ _ _ ⟨h, hy⟩ ht =>
    ⟨clockEdge_stalled (ht.seqState ▸ hq) h hy, ht.next hq h hy⟩
  refine ⟨t, hr.run, ht.seqState, ht.txIdx, ht.wireTx, ht.cmd, ?_, ht.events⟩
  rcases hq with hq | hq <;> simp [State.busy, ht.seqState, hq]

/-- Settles O57: SETTLE lasts while the ticks are below K_SETTLE; one more tick enters TX_QRY, which POLL_START does. -/
theorem settleLastsItsTicks : Obligations.SettleLastsItsTicks := by
  intro n s hq hg
  refine ⟨fun hlt => ?stays, fun m hn h699 hlast => ?ends⟩
  case stays =>
    obtain ⟨t, hr, ht⟩ := settles hq hg hlt
    exact ⟨t, hr.run, ht.seqState, ht.setCnt, ht.wireTx⟩
  case ends =>
    subst hn
    obtain ⟨t, hr, ht⟩ := settles hq (hg.mono (Nat.le_succ m)) (by omega)
    obtain ⟨p, hp, h⟩ := hg.sample (Nat.lt_succ_self m)
    have htick := tick_of_ticksIn_succ hp hlast
    have hcnt : t.setCnt = 699 := BitVec.eq_of_toNat_eq (ht.setCnt.trans h699)
    obtain ⟨hseq, hset⟩ := settle_ends ht.seqState h htick hcnt
    have hpoll : pollStartNow t p = true := (pollStartNow_iff t h).2 ⟨by simp [ht.seqState], hseq⟩
    refine ⟨_, (hr.cycle hp (clockEdge_settle h ht.seqState)).run, hseq, hset, ?_, ?_, ?_, ?_,
      (settle_wireTx ht.seqState h).trans ht.wireTx⟩
    · rw [stepRule_refCnt t h, if_pos hpoll]
    · rw [stepRule_rxCnt t h, if_pos hpoll]
    · rw [stepRule_txIdx t h, if_pos (.inr (.inl hpoll))]
    · rw [stepRule_rxbuf t h, if_pos hpoll]
      rfl

/-- Settles O58: HUNT waits below K_TMO; the tick that reaches it ends the read with an empty buffer, which is no
reply. -/
theorem silentReadTimesOut : Obligations.SilentReadTimesOut := by
  intro m s hv hq hg h499 hlast
  have hunts {t : State} {p : Inputs} (hqt : t.seqState = .hunt) (h : p.rst = false) :
      clockEdge p t = .next (stepRule t p) := clockEdge_reading h (.inl hqt) (by simp [hqt])
  obtain ⟨t, hr, ht⟩ := (hg.mono (by omega : m ≤ m + 2)).reaches (P := Waiting s) ⟨hv, hq, rfl, rfl⟩
    fun k t p hk hp ⟨h, hn⟩ ht =>
      have hmono : ticksIn (k + 1) s ≤ ticksIn m s := ticksIn_mono s hk
      ⟨hunts ht.seqState h, ht.next hp h hn (by omega)⟩
  obtain ⟨p, hp, h, hn⟩ := hg.sample (by omega : m < m + 2)
  obtain ⟨p', hp', h', -⟩ := hg.sample (by omega : m + 1 < m + 2)
  have htick := tick_of_ticksIn_succ hp hlast
  have hcnt : t.tmoCnt = 499 := BitVec.eq_of_toNat_eq (ht.tmoCnt.trans h499)
  obtain ⟨hseq, htmo, htimeout, hrx⟩ := hunt_times_out ht.inv ht.seqState h hn htick hcnt
  have hread := hr.cycle hp (hunts ht.seqState h)
  have hempty := (ht.inv.next h).replyValid_empty hseq hrx
  obtain ⟨hidle, hlv, hds, hdone, hnot⟩ := decode_notReply hseq hempty h'
  exact ⟨_, _, hread.run, hseq, htmo, htimeout, (hread.cycle hp' (clockEdge_decode h' hseq)).run, hidle, hlv,
    hds.trans ((reading_ds (.inl ht.seqState) h).trans ht.ds), hdone, hnot⟩

/-- Settles O59: the marker and the 79 bytes after it are stored at the indices 0 to 79, and the last one ends the
read. -/
theorem fullReplyIsCollected : Obligations.FullReplyIsCollected := by
  intro s bytes hq hlen hhead hg hbytes hlt
  have hmarker : ∀ p, s.inputs[0]? = some p → p.rxData = 0xBB := fun p hp => by
    rw [← hbytes, List.head?_eq_getElem?, List.getElem?_map, List.getElem?_take_of_lt (by decide), hp] at hhead
    exact Option.some.inj hhead
  have hstart : Collecting s 0 s := ⟨fun _ => .inl hq, fun h => by omega, if_pos hq, fun i hi => by omega, rfl, rfl⟩
  obtain ⟨t, hr, ht⟩ := hg.reaches hstart fun k t p hk hp ⟨h, hn⟩ ht =>
    have hmono : ticksIn (k + 1) s ≤ ticksIn 80 s := ticksIn_mono s hk
    have hi : t.seqState = .acc → t.rxCnt.toNat < Config.kRxCap := fun hqt => by
      have hidx : readIndex t = t.rxCnt.toNat := if_neg (by simp [hqt])
      rw [← hidx, ht.index]
      exact hk
    ⟨clockEdge_reading h (ht.reading hk) hi,
      ht.next hk hp h hn (fun h0 => hmarker p (h0 ▸ hp)) (by omega)⟩
  have hseq := ht.ended rfl
  have hcnt : t.rxCnt.toNat = 80 := (if_neg (by simp [hseq])).symm.trans ht.index
  refine ⟨t, hr.run, hseq, ?_, BitVec.eq_of_toNat_eq hcnt, ht.ds⟩
  apply List.ext_getElem?
  intro i
  rw [Vector.getElem?_toList, ← hbytes, List.getElem?_map]
  by_cases hi : i < 80
  · rw [List.getElem?_take_of_lt hi, ht.stored i hi]
  · rw [List.getElem?_take_eq_none (by omega), Vector.getElem?_eq_none (Nat.le_of_not_lt hi)]
    rfl

end Sys2Proof.Machine
end

section
/-! PROOF. The same cycle with another host transaction (44_sequencer.md R246 to R250, R253): what of its outcome
changes. -/

namespace Sys2Proof.Machine

/-! ### The transaction of a changed bus -/

@[simp] theorem hostReg_withBus (p : Inputs) (we : Bool) (addr : BitVec 8) (data : Word) :
    hostReg (p.withBus we addr data) = (addr.extractLsb' 2 6).toNat := rfl

/-- An offset with word index 0 is CTRL's (45_host_bus.md R272). -/
theorem hostReg_ctrl (p : Inputs) (we : Bool) {addr : BitVec 8} (data : Word) (hk : addr.extractLsb' 2 6 = 0) :
    hostReg (p.withBus we addr data) = 0 := congrArg BitVec.toNat hk

/-- A write to CTRL carries the operation code in its data. -/
theorem hostOp_ctrlWrite (p : Inputs) {addr : BitVec 8} (data : Word) (hk : addr.extractLsb' 2 6 = 0) :
    hostOp (p.withBus true addr data) = data.extractLsb' 0 2 := if_pos ⟨rfl, hostReg_ctrl p true data hk⟩

theorem withBus_withBus (p : Inputs) (we we' : Bool) (addr addr' : BitVec 8) (data data' : Word) :
    (p.withBus we addr data).withBus we' addr' data' = p.withBus we' addr' data' := rfl

theorem applyNow_nop {s : State} {p : Inputs} (h : hostOp p = 0) : applyNow s p = false := by simp [applyNow, h]
theorem refreshNow_nop {s : State} {p : Inputs} (h : hostOp p = 0) : refreshNow s p = false := by simp [refreshNow, h]

/-- OP 3 raises BADOP and nothing else (44_sequencer.md R247). -/
theorem hostEvents_badop {s : State} {p : Inputs} (h : hostOp p = 3) : hostEvents s p = 0b010000 := by
  simp [hostEvents, h]
  rfl

/-- OP 1 and OP 2 outside IDLE raise DROPPED and nothing else (44_sequencer.md R246). -/
theorem hostEvents_dropped {s : State} {p : Inputs} (hq : s.seqState ≠ .idle) (h : hostOp p = 1 ∨ hostOp p = 2) :
    hostEvents s p = 0b001000 := by
  have h3 : hostOp p ≠ 3 := by rcases h with h | h <;> simp [h]
  rw [hostEvents, decide_eq_true ⟨h, hq⟩, decide_eq_false h3]
  rfl

/-- A cycle depends on its host transaction by the word index and by the state the transaction leaves. -/
theorem clockEdge_withBus_congr {s : State} {p : Inputs} {we we' : Bool} {addr addr' : BitVec 8} {data data' : Word}
    (hk : hostReg (p.withBus we addr data) = hostReg (p.withBus we' addr' data'))
    (ha : afterHost s (p.withBus we addr data) = afterHost s (p.withBus we' addr' data')) :
    clockEdge (p.withBus we addr data) s = clockEdge (p.withBus we' addr' data') s := by
  have hops : runOps (cycleOps s (p.withBus we addr data)) s = runOps (cycleOps s (p.withBus we' addr' data')) s := by
    cases h : p.rst with
    | true => rw [cycleOps_rst (p := p.withBus we addr data) h, cycleOps_rst (p := p.withBus we' addr' data') h]
    | false =>
      rw [runOps_cycleOps (p := p.withBus we addr data) s h, runOps_cycleOps (p := p.withBus we' addr' data') s h, ha]
      rfl
  have hfin : finishCycle s (p.withBus we addr data) = finishCycle s (p.withBus we' addr' data') := by
    funext t
    simp only [finishCycle, cycleOutputs, txnIndex_txn, hk]
    rfl
  rw [clockEdge, clockEdge, hops, hfin]

/-- A CTRL cycle without an operation code does nothing but drive 0 (44_sequencer.md R248). -/
theorem afterHost_nop {s : State} {p : Inputs} (h0 : hostReg p = 0) (hop : hostOp p = 0) :
    afterHost s p = s.driveRdata 0 := by
  simp [afterHost, applyNow_nop hop, refreshNow_nop hop, hostRegs_ctrl h0, hostEvents_of_nop hop]

/-! ### Transactions that start the same exchange, or none -/

section SameExchange
variable {s : State} {p : Inputs} {we : Bool} {addr : BitVec 8} {data : Word}
  (ha : applyNow s (p.withBus we addr data) = applyNow s p)
  (hr : refreshNow s (p.withBus we addr data) = refreshNow s p)
include ha hr

/-- Two transactions that start the same exchange leave the same room to a due refresh (44_sequencer.md R245). -/
theorem periodicNow_withBus : periodicNow s (p.withBus we addr data) = periodicNow s p := by
  by_cases hq : s.seqState = .idle
  · rw [applyNow_idle hq, applyNow_idle hq] at ha
    rw [refreshNow_idle hq, refreshNow_idle hq] at hr
    rw [periodicNow_idle hq, periodicNow_idle hq, ha, hr]
  · rw [periodicNow_busy hq, periodicNow_busy hq]

/-- They take the same row of the transition table (44_sequencer.md R240). -/
theorem transitionTable_withBus : transitionTable s (p.withBus we addr data) = transitionTable s p := by
  cases hq : s.seqState with
  | idle =>
    simp only [applyNow_idle hq, refreshNow_idle hq, decide_eq_decide] at ha hr
    simp only [transitionTable_idle hq, ha, hr]
  | txCmd | settle | txQry | hunt | acc | decode => rw [transitionTable, transitionTable, hq] <;> rfl

/-- And they leave the same registers but for those the host writes, EVT and hb_rdata. -/
theorem stepRule_withBus (h : p.rst = false) :
    stepRule s (p.withBus we addr data) = { stepRule s p with
      req := (stepRule s (p.withBus we addr data)).req
      ien := (stepRule s (p.withBus we addr data)).ien
      evt := (stepRule s (p.withBus we addr data)).evt
      out := { (stepRule s p).out with hbRdata := (stepRule s (p.withBus we addr data)).out.hbRdata } } := by
  have hp := periodicNow_withBus ha hr
  have ht := transitionTable_withBus ha hr
  have hs : pollStartNow s (p.withBus we addr data) = pollStartNow s p := by
    rw [pollStartNow, hr, hp]
    rfl
  have h' : (p.withBus we addr data).rst = false := h
  simp only [stepRule, h, h', cycleOutputs, ha, hr, hp, ht, hs, Bool.false_eq_true, if_false]
  rfl

end SameExchange

/-! ### CTRL writes that start no exchange -/

/-- A CTRL access writes no register but EVT, which takes the cycle's events, and reads 0 (45_host_bus.md R272). -/
theorem stepRule_ctrl (s : State) {p : Inputs} (h : p.rst = false) (we : Bool) {addr : BitVec 8} (data : Word)
    (hk : addr.extractLsb' 2 6 = 0) :
    (stepRule s (p.withBus we addr data)).req = s.req ∧ (stepRule s (p.withBus we addr data)).ien = s.ien ∧
    (stepRule s (p.withBus we addr data)).evt = s.evt ||| eventsNow s (p.withBus we addr data) ∧
    (stepRule s (p.withBus we addr data)).out.hbRdata = 0 := by
  have h0 := hostReg_ctrl p we data hk
  have h' : (p.withBus we addr data).rst = false := h
  have hclr : hostClears (p.withBus we addr data) = 0 := if_neg (by simp [h0])
  refine ⟨?req, ?ien, ?evt, ?rdata⟩
  case req => rw [stepRule_req s h', h0, if_neg (by simp)]
  case ien => rw [stepRule_ien s h', h0, if_neg (by simp)]
  case evt =>
    rw [stepRule_evt s h', hclr]
    simp
  case rdata =>
    rw [stepRule_out s h', cycleOutputs_run h', h0]
    rfl

/-- The events of a cycle are those of the same cycle with OP 0 and the ones its host transaction raises. -/
theorem eventsNow_withBus (s : State) (p : Inputs) (we : Bool) (addr : BitVec 8) (data : Word) :
    eventsNow s (p.withBus we addr data) =
      eventsNow s (p.withBus true 0x00 0) ||| hostEvents s (p.withBus we addr data) := by
  have htmo : timeoutNow s (p.withBus we addr data) = timeoutNow s (p.withBus true 0x00 0) := rfl
  rw [eventsNow_eq, eventsNow_eq s (p.withBus true 0x00 0), hostEvents_of_nop (hostOp_ctrlWrite p 0 rfl), htmo]
  simp [BitVec.or_comm]

/-- A CTRL write that starts no exchange has the outcome of one with OP 0 but for the events it raises
(44_sequencer.md R246 to R248). -/
theorem clockEdge_ctrlWrite {s : State} (hi : IndexInRange s) {p : Inputs} {addr : BitVec 8} {data : Word}
    (h : p.rst = false) (hk : addr.extractLsb' 2 6 = 0)
    (ha : applyNow s (p.withBus true addr data) = false) (hr : refreshNow s (p.withBus true addr data) = false)
    {e : BitVec 6} (he : hostEvents s (p.withBus true addr data) = e) :
    ∃ t, clockEdge (p.withBus true 0x00 0) s = .next t ∧
      clockEdge (p.withBus true addr data) s = .next { t with evt := t.evt ||| e } := by
  have hnop : hostOp (p.withBus true 0x00 0) = 0 := hostOp_ctrlWrite p 0 rfl
  have hframe := stepRule_withBus (p := p.withBus true 0x00 0) (ha.trans (applyNow_nop hnop).symm)
    (hr.trans (refreshNow_nop hnop).symm) h
  obtain ⟨hreq, hien, hevt, hrd⟩ := stepRule_ctrl s h true data hk
  obtain ⟨hreq0, hien0, hevt0, hrd0⟩ := stepRule_ctrl s h true (addr := 0x00) 0 rfl
  rw [withBus_withBus, hreq.trans hreq0.symm, hien.trans hien0.symm, hrd.trans hrd0.symm, hevt, eventsNow_withBus, he,
    ← BitVec.or_assoc, ← hevt0] at hframe
  exact ⟨_, clockEdge_eq_stepRule hi _, (clockEdge_eq_stepRule hi _).trans (congrArg _ hframe)⟩

/-! ### Conditions of the table, in the spec's numbers -/

/-- A refresh is due from K_REFRESH on (44_sequencer.md R242). -/
theorem refDue_iff (s : State) : s.refDue = true ↔ 30000 ≤ s.refCnt.toNat := decide_eq_true_iff

/-- A HUNT cycle consumes the start marker exactly where 0xBB is offered (43_frame_sync.md R216). -/
theorem markerNow_iff {s : State} {p : Inputs} (hq : s.seqState = .hunt) :
    markerNow s p = true ↔ p.rxValid = true ∧ p.rxData = 0xBB := by simp [markerNow, hq, Config.kStart]

end Sys2Proof.Machine
end

section
/-! PROOF. The statements of 44_sequencer.md. -/

namespace Sys2Proof.Machine

/-- Settles O9: each exec by its definition, the whole cycles by what their CTRL access leaves. -/
theorem ctrlWithoutExchange : Obligations.CtrlWithoutExchange := by
  refine ⟨fun _ _ _ => rfl, fun _ _ _ => rfl, fun _ _ _ => rfl, fun _ _ _ _ _ => ⟨rfl, rfl⟩, by decide,
    fun s p data hop => ?noWrite, fun s p addr data hi h hk hop => ?badop⟩
  case noWrite =>
    have hr : hostOp (p.withBus false 0x00 p.hbWdata) = 0 := hostOp_of_noCtrl fun hc => Bool.false_ne_true hc.1
    have hw : hostOp (p.withBus true 0x00 data) = 0 := (hostOp_ctrlWrite p data rfl).trans hop
    exact clockEdge_withBus_congr rfl ((afterHost_nop (hostReg_ctrl p false p.hbWdata rfl) hr).trans
      (afterHost_nop (hostReg_ctrl p true data rfl) hw).symm)
  case badop =>
    have hop3 : hostOp (p.withBus true addr data) = 3 := (hostOp_ctrlWrite p data hk).trans hop
    exact clockEdge_ctrlWrite hi h hk (by simp [applyNow, hop3]) (by simp [refreshNow, hop3]) (hostEvents_badop hop3)

/-- Settles O11: outside IDLE an operation is dropped, and the cycle is one with OP 0 that raises DROPPED. -/
theorem busyOperationsDropped : Obligations.BusyOperationsDropped := by
  refine ⟨fun lane rest s hq => ⟨?apply, ?refresh⟩, fun s p addr data hi hq h hk hop => ?cycle⟩
  case apply => exact congrArg (busAccess 0) (acceptInIdle_busy hq)
  case refresh => exact congrArg (busAccess 0) (acceptInIdle_busy hq)
  case cycle =>
    rw [← hostOp_ctrlWrite p data hk] at hop
    exact clockEdge_ctrlWrite hi h hk (applyNow_busy hq) (refreshNow_busy hq) (hostEvents_dropped hq hop)

/-- Settles O43: the clock edge is R254's STEP in every STATE, on the sample the step takes. -/
theorem stepIsSpecStep : Obligations.StepIsSpecStep := fun _ => step_eq_stepRule

/-- Settles O44: STATE after a step is the entry of the transition table, read row by row. -/
theorem transitionsOfTheTable : Obligations.TransitionsOfTheTable := by
  intro s p hp hi h
  subst hp
  refine ⟨_, step_eq_stepRule hi, ?_⟩
  rw [stepRule_seqState s h]
  refine ⟨fun hq h1 => ?apply, fun hq h2 => ?refresh, fun hq h1 h2 hd => ?due, fun hq h1 h2 hd => ?idle,
    fun hq hl => ?cmdSent, fun hq hl => ?cmd, fun hq he => ?settled, fun hq he => ?settle, fun hq hl => ?qrySent,
    fun hq hl => ?qry, fun hr he => ?readEnds, fun hq he hm => ?marker, fun hq he hm => ?hunt, fun hq he => ?acc,
    fun hq => transitionTable_decode hq⟩
  case apply => rw [transitionTable_idle hq, if_pos h1]
  case refresh => rw [transitionTable_idle hq, h2, if_neg (by decide), if_pos rfl]
  case due => rw [transitionTable_idle hq, if_neg h1, if_neg h2, if_pos ((refDue_iff s).2 hd)]
  case idle => rw [transitionTable_idle hq, if_neg h1, if_neg h2, if_neg (mt (refDue_iff s).1 (Nat.not_le.2 hd))]
  case cmdSent => rw [transitionTable_txCmd hq, if_pos hl]
  case cmd => rw [transitionTable_txCmd hq, if_neg hl]
  case settled => exact (transitionTable_settle hq).trans (if_pos he)
  case settle => exact (transitionTable_settle hq).trans (if_neg he)
  case qrySent => rw [transitionTable_txQry hq, if_pos hl]
  case qry => rw [transitionTable_txQry hq, if_neg hl]
  case readEnds => rcases hr with hq | hq <;> simp [hq, he]
  case marker =>
    rw [transitionTable_hunt hq, he, (markerNow_iff hq).2 hm]
    rfl
  case hunt =>
    rw [transitionTable_hunt hq, he, if_neg (mt (markerNow_iff hq).1 hm)]
    rfl
  case acc => simp [transitionTable_acc hq, he]

/-- Settles O50: outside IDLE no transaction starts an exchange, so two of them leave the same one running. -/
theorem hostCannotDisturbExchange : Obligations.HostCannotDisturbExchange := by
  intro s p we addr data hi hq h
  refine ⟨_, _, clockEdge_eq_stepRule hi p, clockEdge_eq_stepRule hi _, ?_⟩
  rw [stepRule_withBus ((applyNow_busy hq).trans (applyNow_busy hq).symm)
    ((refreshNow_busy hq).trans (refreshNow_busy hq).symm) h]

/-- Settles O10: in IDLE the operation is accepted. -/
theorem operationsAcceptedInIdle : Obligations.OperationsAcceptedInIdle := by
  refine fun lane rest s hq => ⟨?apply, ?refresh⟩
  case apply =>
    show busAccess 0 (acceptInIdle State.applyAccept s) = _
    simp only [acceptInIdle_idle hq, busAccess_eq, State.driveRdata, State.applyAccept, State.encodeCmd]
  case refresh =>
    show busAccess 0 (acceptInIdle State.refreshAccept s) = _
    rw [acceptInIdle_idle hq]
    rfl

/-- Settles O40: PERIODIC in IDLE with a refresh due. -/
theorem periodicStart : Obligations.PeriodicStart := fun s hq hd =>
  (exec_periodic s).trans (congrArg _ (if_pos ⟨hq, (refDue_iff s).2 hd⟩))

/-- Settles O42: the operations of a cycle without reset start with the decoded transaction; a reset cycle has one
operation. -/
theorem stepRunsDecodedTransaction : Obligations.StepRunsDecodedTransaction := by
  refine ⟨fun s t u i h hi ht hu => clockEdge_next ?_, fun s t h ht => clockEdge_next ?_⟩
  · rw [cycleOps_run h, hi, runOps_cons_next ht, hu]
  · rw [cycleOps_rst h, runOps_single ht]

end Sys2Proof.Machine
end

section
/-! PROOF. The same cycle with another REQ, and a read cycle with another offset: what of the outcome changes
(45_host_bus.md R270, R273, R274). -/

namespace Sys2Proof.Machine

/-- A field at bit 0 is the zero-extended register. -/
theorem fieldAt_zero {k : Nat} (v : BitVec k) : fieldAt v 0 = v.setWidth 32 := BitVec.shiftLeft_zero _

/-! ### Another REQ -/

/-- No view but REQ's own shows REQ (45_host_bus.md R273, R296). -/
theorem hostView_withReq (s : State) (r : Word) (k : Nat) :
    hostView { s with req := r } k = if k = 1 then r else hostView s k := by
  by_cases hk : k = 1
  · rw [hk]
    rfl
  · rw [if_neg hk]
    unfold hostView
    split
    case h_2 => exact absurd rfl hk
    all_goals rfl

/-- REQ selects no index. -/
theorem IndexInRange.withReq {s : State} (hi : IndexInRange s) (r : Word) : IndexInRange { s with req := r } :=
  ⟨hi.txCmd, hi.txQry, hi.acc⟩

/-- Without an accepted APPLY a cycle keeps REQ or overwrites it, shows it to a read of REQ, and uses it nowhere else
(44_sequencer.md R253). -/
theorem stepRule_withReq {s : State} {p : Inputs} (r : Word) (h : p.rst = false) (ha : applyNow s p = false) :
    stepRule { s with req := r } p = { stepRule s p with
      req := if p.hbWe ∧ hostReg p = 1 then (stepRule s p).req else r
      out := { (stepRule s p).out with
        hbRdata := if hostReg p = 1 then r else (stepRule s p).out.hbRdata } } := by
  have ha' : applyNow { s with req := r } p = false := ha
  have hreq : (stepRule { s with req := r } p).req = if p.hbWe ∧ hostReg p = 1 then (stepRule s p).req else r := by
    rw [stepRule_req _ h, stepRule_req s h]
    split_ifs <;> rfl
  have hrd : (stepRule { s with req := r } p).out.hbRdata =
      if hostReg p = 1 then r else (stepRule s p).out.hbRdata := by
    rw [stepRule_out _ h, stepRule_out s h, cycleOutputs_run h, cycleOutputs_run h, hostView_withReq]
  rw [← hreq, ← hrd]
  simp only [stepRule, h, ha, ha', cycleOutputs, Bool.false_eq_true, if_false]
  rfl

/-! ### Another read -/

/-- A read cycle writes neither REQ nor IEN, clears no event, and raises the block's own only. -/
theorem stepRule_read (s : State) {p : Inputs} (h : p.rst = false) (hw : p.hbWe = false) :
    (stepRule s p).req = s.req ∧ (stepRule s p).ien = s.ien ∧ (stepRule s p).evt = s.evt ||| eventsNow s p := by
  refine ⟨?req, ?ien, ?evt⟩
  case req => simp [stepRule_req s h, hw]
  case ien => simp [stepRule_ien s h, hw]
  case evt => simp [stepRule_evt s h, hostClears, hw]

/-- A read cycle carries no operation code. -/
theorem hostOp_read {p : Inputs} (hw : p.hbWe = false) : hostOp p = 0 := hostOp_of_noCtrl (by simp [hw])

/-- Two read cycles raise the same events. -/
theorem eventsNow_read (s : State) {p : Inputs} (hw : p.hbWe = false) (addr : BitVec 8) (data : Word) :
    eventsNow s (p.withBus false addr data) = eventsNow s p := by
  rw [eventsNow_eq, eventsNow_eq s p, hostEvents_of_nop (hostOp_read hw),
    hostEvents_of_nop (hostOp_read (p := p.withBus false addr data) rfl)]
  rfl

/-- hb_rdata is the view at the start of the cycle (45_host_bus.md R270). -/
theorem stepRule_hbRdata (s : State) {p : Inputs} (h : p.rst = false) :
    (stepRule s p).out.hbRdata = hostView s (hostReg p) := by
  rw [stepRule_out s h, cycleOutputs_run h]

/-- A read at another offset changes hb_rdata alone (45_host_bus.md R270). -/
theorem stepRule_otherRead (s : State) {p : Inputs} (h : p.rst = false) (hw : p.hbWe = false) (addr : BitVec 8)
    (data : Word) :
    stepRule s (p.withBus false addr data) = (stepRule s p).driveRdata (hostView s (addr.extractLsb' 2 6).toNat) := by
  have hop : hostOp (p.withBus false addr data) = 0 := hostOp_read rfl
  have hframe := stepRule_withBus (s := s) ((applyNow_nop hop).trans (applyNow_nop (hostOp_read hw)).symm)
    ((refreshNow_nop hop).trans (refreshNow_nop (hostOp_read hw)).symm) h
  have h' : (p.withBus false addr data).rst = false := h
  obtain ⟨hreq, hien, hevt⟩ := stepRule_read s h hw
  obtain ⟨hreq', hien', hevt'⟩ := stepRule_read s h' rfl
  rwa [hreq', hien', hevt', eventsNow_read s hw, ← hreq, ← hien, ← hevt, stepRule_hbRdata s h', hostReg_withBus]
    at hframe

end Sys2Proof.Machine
end

section
/-! PROOF. The statements of 45_host_bus.md. -/

namespace Sys2Proof.Machine

/-- Settles O12: the accesses by their definition; in the cycle, the APPLY that would encode REQ is excluded. -/
theorem requestReachesOnlyApply : Obligations.RequestReachesOnlyApply := by
  refine ⟨fun _ _ _ => ⟨rfl, rfl⟩, fun s p r hi h hn => ?_⟩
  have ha : applyNow s p = false := decide_eq_false hn
  exact ⟨_, clockEdge_eq_stepRule hi p,
    (clockEdge_eq_stepRule (hi.withReq r) p).trans (congrArg _ (stepRule_withReq r h ha))⟩

/-- Clearing events that are not set keeps the state (45_host_bus.md R277). -/
theorem clearEvents_of_clear {s : State} {clr : BitVec 6} (h : s.evt &&& clr = 0) : s.clearEvents clr = s := by
  have hkeep : s.evt &&& ~~~clr = s.evt := by
    calc s.evt &&& ~~~clr = (s.evt &&& clr) ||| (s.evt &&& ~~~clr) := by simp [h]
      _ = s.evt &&& (clr ||| ~~~clr) := BitVec.and_or_distrib_left.symm
      _ = s.evt := by simp
  rw [State.clearEvents, hkeep]

/-- Settles O14: the cycle's EVT by R254, its clear the data of the write to word index 3. -/
theorem eventAcknowledge : Obligations.EventAcknowledge := by
  refine ⟨fun lane data s => ?access, fun s hi h hw hg => ⟨_, step_eq_stepRule hi, ?cycle⟩,
    fun s clr => clearEvents_of_clear⟩
  case access =>
    rw [← fieldAt_zero]
    exact ⟨rfl, rfl⟩
  case cycle => rw [stepRule_evt s h, hostClears, if_pos ⟨hw, hg⟩]

/-- Settles O18: the decoded transaction leaves `hostWrites`, which the statement writes out. -/
theorem completeBusMap : Obligations.CompleteBusMap := fun w s => exec_decodeTxn w s

/-- Settles O19: the view is the one of R254's STEP, and a read at another offset changes it alone. -/
theorem readsReturnOldValueWithoutEffect : Obligations.ReadsReturnOldValueWithoutEffect :=
  ⟨fun s hi h => ⟨_, step_eq_stepRule hi, stepRule_hbRdata s h⟩, fun s p addr data hi h hw =>
    ⟨_, clockEdge_eq_stepRule hi p,
      (clockEdge_eq_stepRule hi _).trans (congrArg _ (stepRule_otherRead s h hw addr data))⟩⟩

/-- Settles O8: each access drives its view; the timers' low fields stand at bit 0. -/
theorem readOnlyRegisters : Obligations.ReadOnlyRegisters := by
  intro lane data s
  rw [← fieldAt_zero s.tmoCnt, ← fieldAt_zero s.refCnt]
  and_intros
  all_goals rfl

/-- Settles O13: the next state is `ien` replaced, and irq reads it. -/
theorem interruptEnable : Obligations.InterruptEnable := by
  intro lane data s
  rw [← fieldAt_zero s.ien]
  exact ⟨rfl, _, rfl, rfl, rfl⟩

/-- The last word of the CMDBUF window holds the three bytes left of CMD (45_host_bus.md R291). -/
theorem cmdWindow_last (s : State) :
    cmdWindow s 8 = wordOfBytes 0x00 (s.cmdByte 34) (s.cmdByte 33) (s.cmdByte 32) := by
  rw [← cmdByte_past s (le_refl 35)]
  rfl

/-- Settles O15: each access drives its window word. -/
theorem commandWindow : Obligations.CommandWindow := by
  intro lane data s
  rw [← cmdWindow_last]
  and_intros
  all_goals rfl

/-- Settles O16: each access drives its window word. -/
theorem receiveWindow : Obligations.ReceiveWindow := by
  intro lane data s
  and_intros
  all_goals rfl

/-- Settles O17: each access of an unmapped range drives 0. -/
theorem unmappedOffsets : Obligations.UnmappedOffsets := by
  intro lane low4 low5 data s
  and_intros
  all_goals rfl

end Sys2Proof.Machine
end

section
/-! PROOF. The cause of each event (60_exceptions.md R301), the same cycle with another EVT, and a step within the
invariants. -/

namespace Sys2Proof.Machine

/-! ### Causes -/

/-- The cause of each event in a cycle, as the table of R301 gives it. -/
def eventCause (s : State) (p : Inputs) : Event → Bool
  | .done => s.seqState = .decode
  | .updated => s.seqState = .decode ∧ s.rxByte 0 = 0xBB ∧ s.rxByte 1 = 0x01
  | .notReply => s.seqState = .decode ∧ ¬ (s.rxByte 0 = 0xBB ∧ s.rxByte 1 = 0x01)
  | .dropped => s.seqState ≠ .idle ∧ (hostOp p = 1 ∨ hostOp p = 2)
  | .badop => hostOp p = 3
  | .timeout => (s.seqState = .hunt ∨ s.seqState = .acc) ∧ p.tickMs ∧ 500 ≤ (s.tmoCnt + 1).toNat

theorem eventCode_lt (e : Event) : eventCode e < 6 := by cases e <;> decide

/-- A cycle raises an event exactly where its cause occurs. -/
theorem eventsNow_getLsbD (s : State) (p : Inputs) (e : Event) :
    (eventsNow s p).getLsbD (eventCode e) = eventCause s p e := by
  simp only [eventsNow, BitVec.getLsbD_or, eventIf_getLsbD]
  cases e with
  | done | badop => simp [eventCode, eventCause]
  | updated | notReply => simp [eventCode, eventCause, replyValid_iff]
  | dropped => simp [eventCode, eventCause, and_comm]
  | timeout => simp [-BitVec.toNat_add, eventCode, eventCause, timeoutNow, reading_iff, Config.kTmo]

/-- An event's bit after a cycle: its cause, or the bit kept where the host does not clear it (60_exceptions.md R300). -/
theorem stepRule_evt_getLsbD (s : State) {p : Inputs} (h : p.rst = false) (e : Event) :
    (stepRule s p).evt.getLsbD (eventCode e) =
      (eventCause s p e || (s.evt.getLsbD (eventCode e) && !hostWritesBit p 3 (eventCode e))) := by
  have hlt := eventCode_lt e
  rw [stepRule_evt s h, BitVec.getLsbD_or, BitVec.getLsbD_and, BitVec.getLsbD_not, hostClears_getLsbD p hlt,
    eventsNow_getLsbD, decide_eq_true hlt, Bool.true_and, Bool.or_comm]

/-! ### Another EVT -/

/-- EVT selects no index. -/
theorem IndexInRange.withEvt {s : State} (hi : IndexInRange s) (e : BitVec 6) : IndexInRange { s with evt := e } :=
  ⟨hi.txCmd, hi.txQry, hi.acc⟩

/-- A cycle uses EVT in the next EVT and in the outputs alone. -/
theorem stepRule_withEvt (s : State) {p : Inputs} (h : p.rst = false) (e : BitVec 6) :
    stepRule { s with evt := e } p = { stepRule s p with
      evt := (stepRule { s with evt := e } p).evt
      out := (stepRule { s with evt := e } p).out } := by
  simp only [stepRule, h, Bool.false_eq_true, if_false]
  rfl

/-! ### A step within the invariants -/

/-- Within the invariants every step answers a next state, again within them. -/
theorem Inv.exists_step {s : State} (hv : Inv s) : ∃ t, step s = .next t ∧ Inv t := by
  have hs := step_eq_stepRule hv.indexInRange
  exact ⟨_, hs, invKept s _ hv hs⟩

end Sys2Proof.Machine
end

section
/-! PROOF. The statements of 60_exceptions.md. -/

namespace Sys2Proof.Machine

/-- Settles O46: each bit by its cause; another EVT leaves the rest of R254's STEP as it is. -/
theorem eventBitsExact : Obligations.EventBitsExact := by
  refine ⟨fun s p hp hi h => ?bits, fun s p e hi h =>
    ⟨_, _, clockEdge_eq_stepRule hi p, clockEdge_eq_stepRule (hi.withEvt e) p, ?frame⟩⟩
  case bits =>
    subst hp
    have hbit := stepRule_evt_getLsbD s h
    exact ⟨_, step_eq_stepRule hi, hbit .done, hbit .updated, hbit .notReply, hbit .dropped, hbit .badop,
      hbit .timeout⟩
  case frame => rw [stepRule_withEvt s h e]

/-- Settles O52, by induction on the number of cycles. -/
theorem noRunStops : Obligations.NoRunStops := by
  intro n
  induction n with
  | zero => exact fun s hv => ⟨s, runCycles_zero s, hv⟩
  | succ n ih =>
    intro s hv
    obtain ⟨t, hs, ht⟩ := hv.exists_step
    rw [runCycles_succ hs]
    exact ih t ht

end Sys2Proof.Machine
end

section
/-! PROOF. A reset cycle and any number of them in a row (70_reset_and_hazards.md R330). -/

namespace Sys2Proof.Machine

/-- No view reads the model's own fields. -/
theorem hostView_of_sameBlock {s t : State} (h : sameBlock s t) (k : Nat) : hostView t k = hostView s k :=
  calc hostView t k
    _ = hostView { t with inputs := s.inputs, cycle := s.cycle, out := s.out, wireTx := s.wireTx } k := rfl
    _ = hostView s k := congrArg (hostView · k) h

/-- The outputs of a reset cycle: the handshakes and irq off, hb_rdata the view of the reset state. -/
def resetOutputs (p : Inputs) : Outputs :=
  { txValid := false, txData := 0x00, rxReady := false, irq := false, hbRdata := hostView State.reset (hostReg p) }

/-- STARTUP leaves the reset state but for the model's own fields. -/
theorem sameBlock_resetBlock (s : State) : sameBlock State.reset s.resetBlock := rfl

/-- A reset cycle drives the reset outputs, whatever the state and the rest of its sample. -/
theorem cycleOutputs_eq_resetOutputs (s : State) {p : Inputs} (h : p.rst = true) (rdata : Word) :
    cycleOutputs s p rdata = resetOutputs p := by
  rw [cycleOutputs, if_pos h, txnIndex_txn, hostView_of_sameBlock (sameBlock_resetBlock s)]
  rfl

/-- R254's STEP in a reset cycle, every field written out. -/
theorem stepRule_rst (s : State) {p : Inputs} (h : p.rst = true) :
    stepRule s p = { State.reset with
      inputs := s.inputs.tail, cycle := s.cycle + 1, wireTx := s.wireTx, out := resetOutputs p } := by
  rw [stepRule, if_pos h, cycleOutputs_eq_resetOutputs s h]
  rfl

/-- Cycles with rst = 1 join no byte to the transmit stream, and the last of them leaves the reset state and its
outputs. -/
theorem reaches_reset {s : State} {m : Nat} (hg : SamplesMeet (m + 1) s fun p => p.rst = true) :
    ∃ t p, s.inputs[m]? = some p ∧ Reaches s (m + 1) t ∧ sameBlock State.reset t ∧ t.wireTx = s.wireTx ∧
      t.out = resetOutputs p := by
  have hwire {t : State} {p : Inputs} (h : p.rst = true) : (stepRule t p).wireTx = t.wireTx := by rw [stepRule_rst t h]
  obtain ⟨t, hr, ht⟩ := (hg.mono (Nat.le_succ m)).reaches (P := fun _ t => t.wireTx = s.wireTx) rfl
    fun _ _ _ _ _ h ht => ⟨clockEdge_rst h, (hwire h).trans ht⟩
  obtain ⟨p, hp, h⟩ := hg.sample (Nat.lt_succ_self m)
  exact ⟨_, p, hp, hr.cycle hp (clockEdge_rst h), sameBlock_stepRule_rst h, (hwire h).trans ht, by rw [stepRule_rst t h]⟩

end Sys2Proof.Machine
end

section
/-! PROOF. The statements of 70_reset_and_hazards.md. -/

namespace Sys2Proof.Machine

/-- Settles O7: STARTUP by its meaning, one reset cycle by R254's STEP, and n of them by the last one, n being at
least 1. -/
theorem resetHeld : Obligations.ResetHeld := by
  refine ⟨fun s => rfl, fun s h => ?cycle, fun n s hn hg => ?run⟩
  case cycle => exact (clockEdge_rst h).trans (congrArg _ (stepRule_rst s h))
  case run =>
    obtain ⟨m, rfl⟩ := Nat.exists_eq_add_of_le' hn
    obtain ⟨t, p, hp, hr, hsame, hwire, hout⟩ := reaches_reset hg
    refine ⟨t, hr.run, hsame, hwire, ?_⟩
    rw [hout]
    refine ⟨rfl, rfl, rfl, rfl, fun q hq => ?_⟩
    obtain rfl : p = q := Option.some.inj (hp.symm.trans hq)
    rfl

end Sys2Proof.Machine
end
